-- ==== Sys2Proof/Word.lean ====
section
/-! DEFINITION. The two word types of the hardware (00_scope.md R5: `REG_BITS` = 8, `ADDR_BITS` = 16). -/

namespace Sys2Proof

/-- A register, a memory byte, an opcode byte, an 8-bit immediate or a port number (R6, R20, R88). -/
abbrev Byte := BitVec 8

/-- PC, SP, a register pair, a memory address or a 16-bit immediate (R6, R20, R88). -/
abbrev Word := BitVec 16

end Sys2Proof
end

