-- ==== Sys2Proof/Syntax.lean ====
section
/-! DEFINITION. The instructions: one constructor of `Instr` for each of the 256 rows of spec/opcode_table.json,
grouped by the three formats of 30_encoding.md R81, and beside it `Form`, the spec's own generic forms
(`MOV ddd,sss`, `Jcc a16`, …) with the field values a row has, `Instr.form`. -/

namespace Sys2Proof

/-- The seven general registers (R21, R84). -/
inductive Reg where
  | b | c | d | e | h | l | a
deriving DecidableEq, Repr

/-- The pair operands of LXI, INX, DCX and DAD (R85). -/
inductive Pair where
  | bc | de | hl | sp
deriving DecidableEq, Repr

/-- The pair operands of PUSH and POP (R85). -/
inductive StackPair where
  | bc | de | hl | psw
deriving DecidableEq, Repr

/-- The pair operands of LDAX and STAX (R122, R123). -/
inductive IndexPair where
  | bc | de
deriving DecidableEq, Repr

/-- The eight conditions of jumps, calls and returns (R86, R200). -/
inductive Cond where
  | nz | z | nc | c | po | pe | p | m
deriving DecidableEq, Repr

/-- The eight two-operand operations of the ALU (R87). -/
inductive AluOp where
  | add | adc | sub | sbb | ana | xra | ora | cmp
deriving DecidableEq, Repr

/-- The twelve undocumented opcode bytes, each a one-byte no-operation (R93, R264). -/
inductive Undocumented where
  | u08 | u10 | u18 | u20 | u28 | u30 | u38 | uCB | uD9 | uDD | uED | uFD
deriving DecidableEq, Repr

/-- The 256 instructions (R94, R98). An argument `v` is the one-byte immediate or port number, `w` the two-byte immediate
or address (R81, R88). -/
inductive Instr where
  -- format F3, three bytes (R81), in the order of the table
  | lxiB (w : Word)
  | lxiD (w : Word)
  | lxiH (w : Word)
  | shld (w : Word)
  | lhld (w : Word)
  | lxiSp (w : Word)
  | sta (w : Word)
  | lda (w : Word)
  | jnz (w : Word)
  | jmp (w : Word)
  | cnz (w : Word)
  | jz (w : Word)
  | cz (w : Word)
  | call (w : Word)
  | jnc (w : Word)
  | cnc (w : Word)
  | jc (w : Word)
  | cc (w : Word)
  | jpo (w : Word)
  | cpo (w : Word)
  | jpe (w : Word)
  | cpe (w : Word)
  | jp (w : Word)
  | cp (w : Word)
  | jm (w : Word)
  | cm (w : Word)
  -- format F2, two bytes (R81), in the order of the table
  | mviB (v : Byte)
  | mviC (v : Byte)
  | mviD (v : Byte)
  | mviE (v : Byte)
  | mviH (v : Byte)
  | mviL (v : Byte)
  | mviM (v : Byte)
  | mviA (v : Byte)
  | adi (v : Byte)
  | aci (v : Byte)
  | outPort (v : Byte)
  | sui (v : Byte)
  | inPort (v : Byte)
  | sbi (v : Byte)
  | ani (v : Byte)
  | xri (v : Byte)
  | ori (v : Byte)
  | cpi (v : Byte)
  -- format F1, one byte (R81), in the order of the table
  | nop
  | staxB
  | inxB
  | inrB
  | dcrB
  | rlc
  | nop08
  | dadB
  | ldaxB
  | dcxB
  | inrC
  | dcrC
  | rrc
  | nop10
  | staxD
  | inxD
  | inrD
  | dcrD
  | ral
  | nop18
  | dadD
  | ldaxD
  | dcxD
  | inrE
  | dcrE
  | rar
  | nop20
  | inxH
  | inrH
  | dcrH
  | daa
  | nop28
  | dadH
  | dcxH
  | inrL
  | dcrL
  | cma
  | nop30
  | inxSp
  | inrM
  | dcrM
  | stc
  | nop38
  | dadSp
  | dcxSp
  | inrA
  | dcrA
  | cmc
  | movBB
  | movBC
  | movBD
  | movBE
  | movBH
  | movBL
  | movBM
  | movBA
  | movCB
  | movCC
  | movCD
  | movCE
  | movCH
  | movCL
  | movCM
  | movCA
  | movDB
  | movDC
  | movDD
  | movDE
  | movDH
  | movDL
  | movDM
  | movDA
  | movEB
  | movEC
  | movED
  | movEE
  | movEH
  | movEL
  | movEM
  | movEA
  | movHB
  | movHC
  | movHD
  | movHE
  | movHH
  | movHL
  | movHM
  | movHA
  | movLB
  | movLC
  | movLD
  | movLE
  | movLH
  | movLL
  | movLM
  | movLA
  | movMB
  | movMC
  | movMD
  | movME
  | movMH
  | movML
  | hlt
  | movMA
  | movAB
  | movAC
  | movAD
  | movAE
  | movAH
  | movAL
  | movAM
  | movAA
  | addB
  | addC
  | addD
  | addE
  | addH
  | addL
  | addM
  | addA
  | adcB
  | adcC
  | adcD
  | adcE
  | adcH
  | adcL
  | adcM
  | adcA
  | subB
  | subC
  | subD
  | subE
  | subH
  | subL
  | subM
  | subA
  | sbbB
  | sbbC
  | sbbD
  | sbbE
  | sbbH
  | sbbL
  | sbbM
  | sbbA
  | anaB
  | anaC
  | anaD
  | anaE
  | anaH
  | anaL
  | anaM
  | anaA
  | xraB
  | xraC
  | xraD
  | xraE
  | xraH
  | xraL
  | xraM
  | xraA
  | oraB
  | oraC
  | oraD
  | oraE
  | oraH
  | oraL
  | oraM
  | oraA
  | cmpB
  | cmpC
  | cmpD
  | cmpE
  | cmpH
  | cmpL
  | cmpM
  | cmpA
  | rnz
  | popB
  | pushB
  | rst0
  | rz
  | ret
  | nopCB
  | rst1
  | rnc
  | popD
  | pushD
  | rst2
  | rc
  | nopD9
  | nopDD
  | rst3
  | rpo
  | popH
  | xthl
  | pushH
  | rst4
  | rpe
  | pchl
  | xchg
  | nopED
  | rst5
  | rp
  | popPsw
  | di
  | pushPsw
  | rst6
  | rm
  | sphl
  | ei
  | nopFD
  | rst7
deriving DecidableEq, Repr

/-- The three formats: one, two or three bytes (R81). -/
inductive Format where
  | f1 | f2 | f3
deriving DecidableEq, Repr

/-- The generic forms in which the spec describes the instructions (files 40 to 46), each with its operand fields. -/
inductive Form where
  | nop
  | undocumented (u : Undocumented)
  | mov (dst src : Reg)
  | movFromM (dst : Reg)
  | movToM (src : Reg)
  | mvi (dst : Reg) (v : Byte)
  | mviM (v : Byte)
  | lxi (p : Pair) (w : Word)
  | lda (w : Word)
  | sta (w : Word)
  | lhld (w : Word)
  | shld (w : Word)
  | ldax (p : IndexPair)
  | stax (p : IndexPair)
  | xchg
  | alu (op : AluOp) (src : Reg)
  | aluM (op : AluOp)
  | aluI (op : AluOp) (v : Byte)
  | inr (r : Reg)
  | inrM
  | dcr (r : Reg)
  | dcrM
  | inx (p : Pair)
  | dcx (p : Pair)
  | dad (p : Pair)
  | daa
  | rlc
  | rrc
  | ral
  | rar
  | cma
  | cmc
  | stc
  | push (p : StackPair)
  | pop (p : StackPair)
  | xthl
  | sphl
  | jmp (w : Word)
  | jcc (cond : Cond) (w : Word)
  | call (w : Word)
  | ccc (cond : Cond) (w : Word)
  | ret
  | rcc (cond : Cond)
  | rst (n : BitVec 3)
  | pchl
  | inp (port : Byte)
  | out (port : Byte)
  | hlt
  | ei
  | di
deriving DecidableEq, Repr

/-- The format of a form (R81's column "used by"). -/
def Form.format : Form → Format
  | .mvi _ _ | .mviM _ | .aluI _ _ | .inp _ | .out _ => .f2
  | .lxi _ _ | .lda _ | .sta _ | .lhld _ | .shld _ | .jmp _ | .jcc _ _ | .call _ | .ccc _ _ => .f3
  | .nop | .undocumented _ | .mov _ _ | .movFromM _ | .movToM _ | .ldax _ | .stax _ | .xchg | .alu _ _ | .aluM _
  | .inr _ | .inrM | .dcr _ | .dcrM | .inx _ | .dcx _ | .dad _ | .daa | .rlc | .rrc | .ral | .rar | .cma | .cmc | .stc
  | .push _ | .pop _ | .xthl | .sphl | .ret | .rcc _ | .rst _ | .pchl | .hlt | .ei | .di => .f1

/-- The number of bytes of a format (R81). -/
def Format.length : Format → Nat
  | .f1 => 1
  | .f2 => 2
  | .f3 => 3

/-- The form and the field values of each row (opcode_table.json: `encoding`, `source_fields`, `operand_bytes`). -/
def Instr.form : Instr → Form
  | .nop => .nop
  | .lxiB w => .lxi .bc w
  | .staxB => .stax .bc
  | .inxB => .inx .bc
  | .inrB => .inr .b
  | .dcrB => .dcr .b
  | .mviB v => .mvi .b v
  | .rlc => .rlc
  | .nop08 => .undocumented .u08
  | .dadB => .dad .bc
  | .ldaxB => .ldax .bc
  | .dcxB => .dcx .bc
  | .inrC => .inr .c
  | .dcrC => .dcr .c
  | .mviC v => .mvi .c v
  | .rrc => .rrc
  | .nop10 => .undocumented .u10
  | .lxiD w => .lxi .de w
  | .staxD => .stax .de
  | .inxD => .inx .de
  | .inrD => .inr .d
  | .dcrD => .dcr .d
  | .mviD v => .mvi .d v
  | .ral => .ral
  | .nop18 => .undocumented .u18
  | .dadD => .dad .de
  | .ldaxD => .ldax .de
  | .dcxD => .dcx .de
  | .inrE => .inr .e
  | .dcrE => .dcr .e
  | .mviE v => .mvi .e v
  | .rar => .rar
  | .nop20 => .undocumented .u20
  | .lxiH w => .lxi .hl w
  | .shld w => .shld w
  | .inxH => .inx .hl
  | .inrH => .inr .h
  | .dcrH => .dcr .h
  | .mviH v => .mvi .h v
  | .daa => .daa
  | .nop28 => .undocumented .u28
  | .dadH => .dad .hl
  | .lhld w => .lhld w
  | .dcxH => .dcx .hl
  | .inrL => .inr .l
  | .dcrL => .dcr .l
  | .mviL v => .mvi .l v
  | .cma => .cma
  | .nop30 => .undocumented .u30
  | .lxiSp w => .lxi .sp w
  | .sta w => .sta w
  | .inxSp => .inx .sp
  | .inrM => .inrM
  | .dcrM => .dcrM
  | .mviM v => .mviM v
  | .stc => .stc
  | .nop38 => .undocumented .u38
  | .dadSp => .dad .sp
  | .lda w => .lda w
  | .dcxSp => .dcx .sp
  | .inrA => .inr .a
  | .dcrA => .dcr .a
  | .mviA v => .mvi .a v
  | .cmc => .cmc
  | .movBB => .mov .b .b
  | .movBC => .mov .b .c
  | .movBD => .mov .b .d
  | .movBE => .mov .b .e
  | .movBH => .mov .b .h
  | .movBL => .mov .b .l
  | .movBM => .movFromM .b
  | .movBA => .mov .b .a
  | .movCB => .mov .c .b
  | .movCC => .mov .c .c
  | .movCD => .mov .c .d
  | .movCE => .mov .c .e
  | .movCH => .mov .c .h
  | .movCL => .mov .c .l
  | .movCM => .movFromM .c
  | .movCA => .mov .c .a
  | .movDB => .mov .d .b
  | .movDC => .mov .d .c
  | .movDD => .mov .d .d
  | .movDE => .mov .d .e
  | .movDH => .mov .d .h
  | .movDL => .mov .d .l
  | .movDM => .movFromM .d
  | .movDA => .mov .d .a
  | .movEB => .mov .e .b
  | .movEC => .mov .e .c
  | .movED => .mov .e .d
  | .movEE => .mov .e .e
  | .movEH => .mov .e .h
  | .movEL => .mov .e .l
  | .movEM => .movFromM .e
  | .movEA => .mov .e .a
  | .movHB => .mov .h .b
  | .movHC => .mov .h .c
  | .movHD => .mov .h .d
  | .movHE => .mov .h .e
  | .movHH => .mov .h .h
  | .movHL => .mov .h .l
  | .movHM => .movFromM .h
  | .movHA => .mov .h .a
  | .movLB => .mov .l .b
  | .movLC => .mov .l .c
  | .movLD => .mov .l .d
  | .movLE => .mov .l .e
  | .movLH => .mov .l .h
  | .movLL => .mov .l .l
  | .movLM => .movFromM .l
  | .movLA => .mov .l .a
  | .movMB => .movToM .b
  | .movMC => .movToM .c
  | .movMD => .movToM .d
  | .movME => .movToM .e
  | .movMH => .movToM .h
  | .movML => .movToM .l
  | .hlt => .hlt
  | .movMA => .movToM .a
  | .movAB => .mov .a .b
  | .movAC => .mov .a .c
  | .movAD => .mov .a .d
  | .movAE => .mov .a .e
  | .movAH => .mov .a .h
  | .movAL => .mov .a .l
  | .movAM => .movFromM .a
  | .movAA => .mov .a .a
  | .addB => .alu .add .b
  | .addC => .alu .add .c
  | .addD => .alu .add .d
  | .addE => .alu .add .e
  | .addH => .alu .add .h
  | .addL => .alu .add .l
  | .addM => .aluM .add
  | .addA => .alu .add .a
  | .adcB => .alu .adc .b
  | .adcC => .alu .adc .c
  | .adcD => .alu .adc .d
  | .adcE => .alu .adc .e
  | .adcH => .alu .adc .h
  | .adcL => .alu .adc .l
  | .adcM => .aluM .adc
  | .adcA => .alu .adc .a
  | .subB => .alu .sub .b
  | .subC => .alu .sub .c
  | .subD => .alu .sub .d
  | .subE => .alu .sub .e
  | .subH => .alu .sub .h
  | .subL => .alu .sub .l
  | .subM => .aluM .sub
  | .subA => .alu .sub .a
  | .sbbB => .alu .sbb .b
  | .sbbC => .alu .sbb .c
  | .sbbD => .alu .sbb .d
  | .sbbE => .alu .sbb .e
  | .sbbH => .alu .sbb .h
  | .sbbL => .alu .sbb .l
  | .sbbM => .aluM .sbb
  | .sbbA => .alu .sbb .a
  | .anaB => .alu .ana .b
  | .anaC => .alu .ana .c
  | .anaD => .alu .ana .d
  | .anaE => .alu .ana .e
  | .anaH => .alu .ana .h
  | .anaL => .alu .ana .l
  | .anaM => .aluM .ana
  | .anaA => .alu .ana .a
  | .xraB => .alu .xra .b
  | .xraC => .alu .xra .c
  | .xraD => .alu .xra .d
  | .xraE => .alu .xra .e
  | .xraH => .alu .xra .h
  | .xraL => .alu .xra .l
  | .xraM => .aluM .xra
  | .xraA => .alu .xra .a
  | .oraB => .alu .ora .b
  | .oraC => .alu .ora .c
  | .oraD => .alu .ora .d
  | .oraE => .alu .ora .e
  | .oraH => .alu .ora .h
  | .oraL => .alu .ora .l
  | .oraM => .aluM .ora
  | .oraA => .alu .ora .a
  | .cmpB => .alu .cmp .b
  | .cmpC => .alu .cmp .c
  | .cmpD => .alu .cmp .d
  | .cmpE => .alu .cmp .e
  | .cmpH => .alu .cmp .h
  | .cmpL => .alu .cmp .l
  | .cmpM => .aluM .cmp
  | .cmpA => .alu .cmp .a
  | .rnz => .rcc .nz
  | .popB => .pop .bc
  | .jnz w => .jcc .nz w
  | .jmp w => .jmp w
  | .cnz w => .ccc .nz w
  | .pushB => .push .bc
  | .adi v => .aluI .add v
  | .rst0 => .rst 0
  | .rz => .rcc .z
  | .ret => .ret
  | .jz w => .jcc .z w
  | .nopCB => .undocumented .uCB
  | .cz w => .ccc .z w
  | .call w => .call w
  | .aci v => .aluI .adc v
  | .rst1 => .rst 1
  | .rnc => .rcc .nc
  | .popD => .pop .de
  | .jnc w => .jcc .nc w
  | .outPort v => .out v
  | .cnc w => .ccc .nc w
  | .pushD => .push .de
  | .sui v => .aluI .sub v
  | .rst2 => .rst 2
  | .rc => .rcc .c
  | .nopD9 => .undocumented .uD9
  | .jc w => .jcc .c w
  | .inPort v => .inp v
  | .cc w => .ccc .c w
  | .nopDD => .undocumented .uDD
  | .sbi v => .aluI .sbb v
  | .rst3 => .rst 3
  | .rpo => .rcc .po
  | .popH => .pop .hl
  | .jpo w => .jcc .po w
  | .xthl => .xthl
  | .cpo w => .ccc .po w
  | .pushH => .push .hl
  | .ani v => .aluI .ana v
  | .rst4 => .rst 4
  | .rpe => .rcc .pe
  | .pchl => .pchl
  | .jpe w => .jcc .pe w
  | .xchg => .xchg
  | .cpe w => .ccc .pe w
  | .nopED => .undocumented .uED
  | .xri v => .aluI .xra v
  | .rst5 => .rst 5
  | .rp => .rcc .p
  | .popPsw => .pop .psw
  | .jp w => .jcc .p w
  | .di => .di
  | .cp w => .ccc .p w
  | .pushPsw => .push .psw
  | .ori v => .aluI .ora v
  | .rst6 => .rst 6
  | .rm => .rcc .m
  | .sphl => .sphl
  | .jm w => .jcc .m w
  | .ei => .ei
  | .cm w => .ccc .m w
  | .nopFD => .undocumented .uFD
  | .cpi v => .aluI .cmp v
  | .rst7 => .rst 7

/-- How many bytes an instruction is long (R80, R81). -/
def Instr.length (i : Instr) : Nat := i.form.format.length

end Sys2Proof
end

