-- ==== Sys2Proof/WellFormed.lean ====
section
/-! DEFINITION. Well-formedness. An `Instr` carries its operands at their encoded widths and every value of them is legal
(R95: "immediate bytes can take any value"), so no ill-formed `Instr` can be built. What can be ill-formed is a list of
bytes offered as ONE instruction: `checkBytes` holds it against the lengths of 30_encoding.md R83 (log 12). -/

namespace Sys2Proof

/-- The eighteen two-byte opcodes, as R83 lists them. -/
def twoByteOpcodes : List Byte :=
  [0x06#8, 0x0E#8, 0x16#8, 0x1E#8, 0x26#8, 0x2E#8, 0x36#8, 0x3E#8,
   0xC6#8, 0xCE#8, 0xD6#8, 0xDE#8, 0xE6#8, 0xEE#8, 0xF6#8, 0xFE#8, 0xD3#8, 0xDB#8]

/-- The twenty-six three-byte opcodes, as R83 lists them. -/
def threeByteOpcodes : List Byte :=
  [0x01#8, 0x11#8, 0x21#8, 0x31#8, 0x22#8, 0x2A#8, 0x32#8, 0x3A#8,
   0xC2#8, 0xCA#8, 0xD2#8, 0xDA#8, 0xE2#8, 0xEA#8, 0xF2#8, 0xFA#8, 0xC3#8,
   0xC4#8, 0xCC#8, 0xD4#8, 0xDC#8, 0xE4#8, 0xEC#8, 0xF4#8, 0xFC#8, 0xCD#8]

/-- The length an opcode byte gives its instruction (R80, R83: "every other opcode byte is a one-byte instruction"). -/
def opcodeLength (op : Byte) : Nat :=
  if twoByteOpcodes.contains op then 2 else if threeByteOpcodes.contains op then 3 else 1

/-- What can be wrong with a list of bytes offered as one instruction. -/
inductive FormCheck where
  | wellFormed
  /-- There is no opcode byte. -/
  | noOpcode
  /-- Fewer bytes than the opcode's length. -/
  | tooShort
  /-- More bytes than the opcode's length. -/
  | tooLong
deriving DecidableEq, Repr

/-- The check of a list of bytes offered as one instruction (R80, R83). -/
def checkBytes : List Byte → FormCheck
  | [] => .noOpcode
  | op :: operands =>
    if operands.length + 1 < opcodeLength op then .tooShort
    else if opcodeLength op < operands.length + 1 then .tooLong
    else .wellFormed

end Sys2Proof
end

