-- ==== Sys2Proof/Decode.lean ====
section
/-! DEFINITION. Decoding and encoding. The decoder is the 256-way lookup of 30_encoding.md R94, R98, written as the matrix
stands there; the encoder is written apart from it, from the field tables R84 to R87 and the patterns R89 to R93. -/

namespace Sys2Proof

/-- The high byte of a 16-bit value (R6). -/
def hi8 (w : Word) : Byte := w.extractLsb' 8 8

/-- The low byte of a 16-bit value (R6). -/
def lo8 (w : Word) : Byte := w.extractLsb' 0 8

/-- `hi8 : lo8`, the 16-bit value hi·256 + lo (R6). -/
def join (hi lo : Byte) : Word := hi ++ lo

/-! ## The decode table -/

/-- A row of the table: an instruction with no immediate byte, with one, or with two (R80, R98). -/
inductive Row where
  | bare (i : Instr)
  | imm8 (f : Byte → Instr)
  | imm16 (f : Word → Instr)

def opcodeRow0 : List Row :=
  [.bare .nop, .imm16 .lxiB, .bare .staxB, .bare .inxB, .bare .inrB, .bare .dcrB, .imm8 .mviB, .bare .rlc,
   .bare .nop08, .bare .dadB, .bare .ldaxB, .bare .dcxB, .bare .inrC, .bare .dcrC, .imm8 .mviC, .bare .rrc]

def opcodeRow1 : List Row :=
  [.bare .nop10, .imm16 .lxiD, .bare .staxD, .bare .inxD, .bare .inrD, .bare .dcrD, .imm8 .mviD, .bare .ral,
   .bare .nop18, .bare .dadD, .bare .ldaxD, .bare .dcxD, .bare .inrE, .bare .dcrE, .imm8 .mviE, .bare .rar]

def opcodeRow2 : List Row :=
  [.bare .nop20, .imm16 .lxiH, .imm16 .shld, .bare .inxH, .bare .inrH, .bare .dcrH, .imm8 .mviH, .bare .daa,
   .bare .nop28, .bare .dadH, .imm16 .lhld, .bare .dcxH, .bare .inrL, .bare .dcrL, .imm8 .mviL, .bare .cma]

def opcodeRow3 : List Row :=
  [.bare .nop30, .imm16 .lxiSp, .imm16 .sta, .bare .inxSp, .bare .inrM, .bare .dcrM, .imm8 .mviM, .bare .stc,
   .bare .nop38, .bare .dadSp, .imm16 .lda, .bare .dcxSp, .bare .inrA, .bare .dcrA, .imm8 .mviA, .bare .cmc]

def opcodeRow4 : List Row :=
  [.bare .movBB, .bare .movBC, .bare .movBD, .bare .movBE, .bare .movBH, .bare .movBL, .bare .movBM, .bare .movBA,
   .bare .movCB, .bare .movCC, .bare .movCD, .bare .movCE, .bare .movCH, .bare .movCL, .bare .movCM, .bare .movCA]

def opcodeRow5 : List Row :=
  [.bare .movDB, .bare .movDC, .bare .movDD, .bare .movDE, .bare .movDH, .bare .movDL, .bare .movDM, .bare .movDA,
   .bare .movEB, .bare .movEC, .bare .movED, .bare .movEE, .bare .movEH, .bare .movEL, .bare .movEM, .bare .movEA]

def opcodeRow6 : List Row :=
  [.bare .movHB, .bare .movHC, .bare .movHD, .bare .movHE, .bare .movHH, .bare .movHL, .bare .movHM, .bare .movHA,
   .bare .movLB, .bare .movLC, .bare .movLD, .bare .movLE, .bare .movLH, .bare .movLL, .bare .movLM, .bare .movLA]

def opcodeRow7 : List Row :=
  [.bare .movMB, .bare .movMC, .bare .movMD, .bare .movME, .bare .movMH, .bare .movML, .bare .hlt, .bare .movMA,
   .bare .movAB, .bare .movAC, .bare .movAD, .bare .movAE, .bare .movAH, .bare .movAL, .bare .movAM, .bare .movAA]

def opcodeRow8 : List Row :=
  [.bare .addB, .bare .addC, .bare .addD, .bare .addE, .bare .addH, .bare .addL, .bare .addM, .bare .addA,
   .bare .adcB, .bare .adcC, .bare .adcD, .bare .adcE, .bare .adcH, .bare .adcL, .bare .adcM, .bare .adcA]

def opcodeRow9 : List Row :=
  [.bare .subB, .bare .subC, .bare .subD, .bare .subE, .bare .subH, .bare .subL, .bare .subM, .bare .subA,
   .bare .sbbB, .bare .sbbC, .bare .sbbD, .bare .sbbE, .bare .sbbH, .bare .sbbL, .bare .sbbM, .bare .sbbA]

def opcodeRowA : List Row :=
  [.bare .anaB, .bare .anaC, .bare .anaD, .bare .anaE, .bare .anaH, .bare .anaL, .bare .anaM, .bare .anaA,
   .bare .xraB, .bare .xraC, .bare .xraD, .bare .xraE, .bare .xraH, .bare .xraL, .bare .xraM, .bare .xraA]

def opcodeRowB : List Row :=
  [.bare .oraB, .bare .oraC, .bare .oraD, .bare .oraE, .bare .oraH, .bare .oraL, .bare .oraM, .bare .oraA,
   .bare .cmpB, .bare .cmpC, .bare .cmpD, .bare .cmpE, .bare .cmpH, .bare .cmpL, .bare .cmpM, .bare .cmpA]

def opcodeRowC : List Row :=
  [.bare .rnz, .bare .popB, .imm16 .jnz, .imm16 .jmp, .imm16 .cnz, .bare .pushB, .imm8 .adi, .bare .rst0,
   .bare .rz, .bare .ret, .imm16 .jz, .bare .nopCB, .imm16 .cz, .imm16 .call, .imm8 .aci, .bare .rst1]

def opcodeRowD : List Row :=
  [.bare .rnc, .bare .popD, .imm16 .jnc, .imm8 .outPort, .imm16 .cnc, .bare .pushD, .imm8 .sui, .bare .rst2,
   .bare .rc, .bare .nopD9, .imm16 .jc, .imm8 .inPort, .imm16 .cc, .bare .nopDD, .imm8 .sbi, .bare .rst3]

def opcodeRowE : List Row :=
  [.bare .rpo, .bare .popH, .imm16 .jpo, .bare .xthl, .imm16 .cpo, .bare .pushH, .imm8 .ani, .bare .rst4,
   .bare .rpe, .bare .pchl, .imm16 .jpe, .bare .xchg, .imm16 .cpe, .bare .nopED, .imm8 .xri, .bare .rst5]

def opcodeRowF : List Row :=
  [.bare .rp, .bare .popPsw, .imm16 .jp, .bare .di, .imm16 .cp, .bare .pushPsw, .imm8 .ori, .bare .rst6,
   .bare .rm, .bare .sphl, .imm16 .jm, .bare .ei, .imm16 .cm, .bare .nopFD, .imm8 .cpi, .bare .rst7]

/-- The whole map (R94): the row of opcode byte xy stands at place 16·x + y. -/
def opcodeTable : List Row :=
  opcodeRow0 ++ opcodeRow1 ++ opcodeRow2 ++ opcodeRow3 ++ opcodeRow4 ++ opcodeRow5 ++ opcodeRow6 ++ opcodeRow7 ++
  opcodeRow8 ++ opcodeRow9 ++ opcodeRowA ++ opcodeRowB ++ opcodeRowC ++ opcodeRowD ++ opcodeRowE ++ opcodeRowF

/-- The table's row for an opcode byte; `none` where the table has no entry, which R95 says cannot happen. -/
def tableRow (op : Byte) : Option Row := opcodeTable[op.toNat]?

/-- What the decoder answers. -/
inductive Decoded where
  /-- An instruction, and the bytes after it. -/
  | instr (i : Instr) (rest : List Byte)
  /-- There is no opcode byte. -/
  | noOpcode
  /-- The opcode's immediate bytes are not all there. -/
  | truncated (op : Byte)
  /-- The table has no entry for the opcode (R95, R270). -/
  | noRow (op : Byte)
deriving DecidableEq, Repr

/-- Decoding a list of bytes, the opcode first and the low byte of a 16-bit immediate before the high one (R80, R81, R88). -/
def decode : List Byte → Decoded
  | [] => .noOpcode
  | op :: rest =>
    match tableRow op with
    | none => .noRow op
    | some (.bare i) => .instr i rest
    | some (.imm8 f) =>
      match rest with
      | v :: after => .instr (f v) after
      | [] => .truncated op
    | some (.imm16 f) =>
      match rest with
      | lo :: hi :: after => .instr (f (join hi lo)) after
      | _ => .truncated op

/-! ## The encoder -/

/-- The register field ddd, sss (R84); 110 is the memory operand M. -/
def Reg.code : Reg → BitVec 3
  | .b => 0b000#3
  | .c => 0b001#3
  | .d => 0b010#3
  | .e => 0b011#3
  | .h => 0b100#3
  | .l => 0b101#3
  | .a => 0b111#3

/-- The field value of the memory operand M (R84). -/
def codeM : BitVec 3 := 0b110#3

/-- The pair field rp of LXI, INX, DCX, DAD (R85). -/
def Pair.code : Pair → BitVec 2
  | .bc => 0b00#2
  | .de => 0b01#2
  | .hl => 0b10#2
  | .sp => 0b11#2

/-- The pair field rp of PUSH, POP (R85). -/
def StackPair.code : StackPair → BitVec 2
  | .bc => 0b00#2
  | .de => 0b01#2
  | .hl => 0b10#2
  | .psw => 0b11#2

/-- `opcode[4]` of LDAX and STAX (R82, R122, R123). -/
def IndexPair.code : IndexPair → BitVec 1
  | .bc => 0b0#1
  | .de => 0b1#1

/-- The condition field ccc (R86). -/
def Cond.code : Cond → BitVec 3
  | .nz => 0b000#3
  | .z => 0b001#3
  | .nc => 0b010#3
  | .c => 0b011#3
  | .po => 0b100#3
  | .pe => 0b101#3
  | .p => 0b110#3
  | .m => 0b111#3

/-- The ALU operation field ooo (R87). -/
def AluOp.code : AluOp → BitVec 3
  | .add => 0b000#3
  | .adc => 0b001#3
  | .sub => 0b010#3
  | .sbb => 0b011#3
  | .ana => 0b100#3
  | .xra => 0b101#3
  | .ora => 0b110#3
  | .cmp => 0b111#3

/-- The undocumented opcode bytes (R93). -/
def Undocumented.byte : Undocumented → Byte
  | .u08 => 0x08#8
  | .u10 => 0x10#8
  | .u18 => 0x18#8
  | .u20 => 0x20#8
  | .u28 => 0x28#8
  | .u30 => 0x30#8
  | .u38 => 0x38#8
  | .uCB => 0xCB#8
  | .uD9 => 0xD9#8
  | .uDD => 0xDD#8
  | .uED => 0xED#8
  | .uFD => 0xFD#8

/-- An opcode byte from its bits 7..6, 5..3 and 2..0 (R82). -/
def opcode233 (group : BitVec 2) (mid low : BitVec 3) : Byte := group ++ mid ++ low

/-- An opcode byte from its bits 7..6, 5..4 and 3..0 (R82). -/
def opcode224 (group rp : BitVec 2) (low : BitVec 4) : Byte := group ++ rp ++ low

/-- An opcode byte from its bits 7..5, 4 and 3..0 (LDAX and STAX, R82). -/
def opcode314 (high : BitVec 3) (p : BitVec 1) (low : BitVec 4) : Byte := high ++ p ++ low

/-- The opcode byte of a form, from the patterns of R89 (group 00), R90 (01), R91 (10), R92 (11) and R93. -/
def Form.opcode : Form → Byte
  | .nop => 0b00000000#8
  | .undocumented u => u.byte
  | .mov dst src => opcode233 0b01#2 dst.code src.code
  | .movFromM dst => opcode233 0b01#2 dst.code codeM
  | .movToM src => opcode233 0b01#2 codeM src.code
  | .mvi dst _ => opcode233 0b00#2 dst.code 0b110#3
  | .mviM _ => opcode233 0b00#2 codeM 0b110#3
  | .lxi p _ => opcode224 0b00#2 p.code 0b0001#4
  | .lda _ => 0b00111010#8
  | .sta _ => 0b00110010#8
  | .lhld _ => 0b00101010#8
  | .shld _ => 0b00100010#8
  | .ldax p => opcode314 0b000#3 p.code 0b1010#4
  | .stax p => opcode314 0b000#3 p.code 0b0010#4
  | .xchg => 0b11101011#8
  | .alu op src => opcode233 0b10#2 op.code src.code
  | .aluM op => opcode233 0b10#2 op.code codeM
  | .aluI op _ => opcode233 0b11#2 op.code 0b110#3
  | .inr r => opcode233 0b00#2 r.code 0b100#3
  | .inrM => opcode233 0b00#2 codeM 0b100#3
  | .dcr r => opcode233 0b00#2 r.code 0b101#3
  | .dcrM => opcode233 0b00#2 codeM 0b101#3
  | .inx p => opcode224 0b00#2 p.code 0b0011#4
  | .dcx p => opcode224 0b00#2 p.code 0b1011#4
  | .dad p => opcode224 0b00#2 p.code 0b1001#4
  | .daa => 0b00100111#8
  | .rlc => 0b00000111#8
  | .rrc => 0b00001111#8
  | .ral => 0b00010111#8
  | .rar => 0b00011111#8
  | .cma => 0b00101111#8
  | .cmc => 0b00111111#8
  | .stc => 0b00110111#8
  | .push p => opcode224 0b11#2 p.code 0b0101#4
  | .pop p => opcode224 0b11#2 p.code 0b0001#4
  | .xthl => 0b11100011#8
  | .sphl => 0b11111001#8
  | .jmp _ => 0b11000011#8
  | .jcc cond _ => opcode233 0b11#2 cond.code 0b010#3
  | .call _ => 0b11001101#8
  | .ccc cond _ => opcode233 0b11#2 cond.code 0b100#3
  | .ret => 0b11001001#8
  | .rcc cond => opcode233 0b11#2 cond.code 0b000#3
  | .rst n => opcode233 0b11#2 n 0b111#3
  | .pchl => 0b11101001#8
  | .inp _ => 0b11011011#8
  | .out _ => 0b11010011#8
  | .hlt => 0b01110110#8
  | .ei => 0b11111011#8
  | .di => 0b11110011#8

/-- The immediate bytes of a form, the low byte of a 16-bit one first (R81, R88). -/
def Form.operands : Form → List Byte
  | .mvi _ v | .mviM v | .aluI _ v | .inp v | .out v => [v]
  | .lxi _ w | .lda w | .sta w | .lhld w | .shld w | .jmp w | .jcc _ w | .call w | .ccc _ w => [lo8 w, hi8 w]
  | .nop | .undocumented _ | .mov _ _ | .movFromM _ | .movToM _ | .ldax _ | .stax _ | .xchg | .alu _ _ | .aluM _
  | .inr _ | .inrM | .dcr _ | .dcrM | .inx _ | .dcx _ | .dad _ | .daa | .rlc | .rrc | .ral | .rar | .cma | .cmc | .stc
  | .push _ | .pop _ | .xthl | .sphl | .ret | .rcc _ | .rst _ | .pchl | .hlt | .ei | .di => []

/-- The bytes of an instruction (R80, R81). -/
def encode (i : Instr) : List Byte := i.form.opcode :: i.form.operands

/-! ## The table's numbering of an instruction's bits -/

/-- The three bytes an instruction can have at most, laid out as the hardware stores them, from the number `w` whose bits
7..0 are the first byte, 15..8 the second and 23..16 the third; every bit from `nbits` up is 0 (log 5). -/
def tableBytes (nbits w : Nat) : List Byte :=
  [BitVec.ofNat 8 (w % 2 ^ nbits), BitVec.ofNat 8 (w % 2 ^ nbits / 256), BitVec.ofNat 8 (w % 2 ^ nbits / 65536)]

/-- The instruction the decoder reads from a word numbered as spec/opcode_table.json numbers it. -/
def decodeTableWord (nbits w : Nat) : Option Instr :=
  match decode (tableBytes nbits w) with
  | .instr i _ => some i
  | .noOpcode => none
  | .truncated _ => none
  | .noRow _ => none

end Sys2Proof
end

