-- ==== Sys2Proof/Config.lean ====
section
/-! DEFINITION. What is fixed for the life of the core (00_scope.md R5, 10_state.md R39), and the one value the spec
leaves open. -/

namespace Sys2Proof.Config

/-- `RESET_PC` (R5, R37; the spec's decision D1). -/
def resetPc : Word := 0x0000#16

/-- `MEM_BYTES` (R5, R50). -/
def memBytes : Nat := 65536

/-- `PORT_INP1`, the IN port of the first latch (R5, R243; decision D3). -/
def portInp1 : Byte := 1#8

/-- `PORT_INP2`, the IN port of the second latch (R5, R243; decision D3). -/
def portInp2 : Byte := 2#8

/-- `PORT_SHIFT_RESULT`, the IN port of the shift result (R5, R243; decision D3). -/
def portShiftResult : Byte := 3#8

/-- `PORT_SHIFT_OFFSET`, the OUT port of the shift offset (R5, R243; decision D3). -/
def portShiftOffset : Byte := 2#8

/-- `PORT_SHIFT_DATA`, the OUT port of the shift data (R5, R243; decision D3). -/
def portShiftData : Byte := 4#8

/-- `FB_BASE`, the first byte of the framebuffer (R5, R59, R310; decision D4). -/
def framebufferBase : Word := 0x2400#16

/-- `FB_BYTES`, the length of the framebuffer (R5, R59, R310; decision D4). -/
def framebufferBytes : Nat := 0x1C00

/-- `ROM_BASE`, where the ROM image is loaded (R5, R59, R308; decision D5). -/
def romBase : Nat := 0x0000

/-- `IN_UNMAPPED(port)`: the byte an IN from a port with no function returns (R5, R249). The spec leaves it OPEN
(decision D6), "so that no theorem depends on it": a free value, one byte per port number, with no body (log 4). -/
opaque inUnmapped : Byte → Byte

end Sys2Proof.Config
end

