-- ==== Sys2Proof/Machine/State.lean ====
section
/-! DEFINITION. The state of the machine (10_state.md R20: "the complete architectural state"), the reasons a transition
can stop, and the state after construction and reset. -/

namespace Sys2Proof.Machine

/-- The five flags (R25). -/
structure Flags where
  /-- Sign. -/
  s : Bool
  /-- Zero. -/
  z : Bool
  /-- AuxiliaryCarry. -/
  ac : Bool
  /-- Parity. -/
  p : Bool
  /-- Carry. -/
  cy : Bool
deriving DecidableEq, Repr

/-- The run state `RUN` (R29). -/
inductive RunState where
  /-- The core has a step. -/
  | running
  /-- HLT was executed (R261). -/
  | halted
  /-- The byte `op` fetched at `pc` has no entry in the decode table (R270). -/
  | decodeError (op : Byte) (pc : Word)
  /-- The host's stop request was honoured (R311). -/
  | stopped
deriving DecidableEq, Repr

/-- Memory: the bytes that differ from `Memory.unlisted`, by address (log 11). -/
abbrev Memory := List Host.Cell

/-- What an address not in the list holds: "zero-initialized at reset" (R37, R50). -/
def Memory.unlisted : Byte := 0x00#8

/-- From address `low` on: the addresses rise strictly and lie inside memory (R50), and no listed byte is the unlisted
one. -/
def Memory.wfFrom : Nat → Memory → Bool
  | _, [] => true
  | low, (k, v) :: m =>
    decide (low ≤ k) && decide (k < Config.memBytes) && (v != Memory.unlisted) && Memory.wfFrom (k + 1) m

/-- The canonical form of memory (log 11). -/
def Memory.wf (m : Memory) : Bool := Memory.wfFrom 0 m

/-- The architectural state (R20). -/
structure State where
  /-- Register B (R21). -/
  b : Byte
  /-- Register C (R21). -/
  c : Byte
  /-- Register D (R21). -/
  d : Byte
  /-- Register E (R21). -/
  e : Byte
  /-- Register H (R21). -/
  h : Byte
  /-- Register L (R21). -/
  l : Byte
  /-- Register A, the accumulator (R21). -/
  a : Byte
  /-- The stack pointer (R23). -/
  sp : Word
  /-- The program counter (R24). -/
  pc : Word
  /-- The flags (R25). -/
  flags : Flags
  /-- `INTE`, the interrupt-enable flag (R28). -/
  inte : Bool
  /-- `RUN` (R29). -/
  run : RunState
  /-- `MEM` (R33, R50). -/
  mem : Memory
  /-- The first button latch of PortState (R31). -/
  port1 : Byte
  /-- The second button latch of PortState (R31). -/
  port2 : Byte
  /-- `shift_reg` of the shift-register hardware (R32). -/
  shiftReg : BitVec 16
  /-- `shift_offset` of the shift-register hardware (R32). -/
  shiftOffset : BitVec 3
deriving DecidableEq, Repr

/-- Why a transition stops with a fault. No step raises one: this hardware has no fault a program can see (R52, R272). -/
inductive Fault where
  /-- Raised by `State.loadImage` alone: the image does not fit into memory (R302 "ROM load failure … wrong size: fatal at
  startup", R308). Safe: the machine stops before any instruction runs (log 7). -/
  | romLoadFailure (base length : Nat)
deriving DecidableEq, Repr

/-- Why an instruction is refused. -/
inductive Refusal where
  /-- Raised by `exec` for an instruction that has no meaning yet; every instruction has one, so nothing raises it. Safe:
  the machine stops. -/
  | notModelled (mnemonic : String)
deriving DecidableEq, Repr

/-- What a meaning, a step or an event of the host answers. -/
abbrev Result := Host.Outcome State Fault Refusal

/-- The state after `Construct`: every piece of state created, then Reset, the bridge state zero (R37, R38, R301;
log 2). -/
def State.reset : State where
  b := 0x00#8
  c := 0x00#8
  d := 0x00#8
  e := 0x00#8
  h := 0x00#8
  l := 0x00#8
  a := 0x00#8
  sp := 0x0000#16
  pc := Config.resetPc
  flags := { s := false, z := false, ac := false, p := false, cy := false }
  inte := false
  run := .running
  mem := []
  port1 := 0x00#8
  port2 := 0x00#8
  shiftReg := 0x0000#16
  shiftOffset := 0#3

end Sys2Proof.Machine
end

