-- ==== Sys2Proof/Machine/Ops.lean ====
section
/-! DEFINITION. The named operations over memory, registers, the stack and the ports; taking an interrupt and returning
from it; the decode error. -/

namespace Sys2Proof.Machine

/-! ## Memory (20_memory.md) -/

/-- The byte at address `k`; an address that is not listed holds `unlisted`. -/
def Memory.byteAt : Memory → Nat → Byte
  | [], _ => Memory.unlisted
  | (j, v) :: m, k => if j = k then v else Memory.byteAt m k

/-- The list without address `k`. -/
def Memory.erase (m : Memory) (k : Nat) : Memory := m.filter fun cell => cell.1 != k

/-- The list with `v` listed at address `k`, before the first greater address. -/
def Memory.insert : Memory → Nat → Byte → Memory
  | [], k, v => [(k, v)]
  | (j, u) :: m, k, v => if k < j then (k, v) :: (j, u) :: m else (j, u) :: Memory.insert m k v

/-- `MemRead(addr, 1)` (R7, R50). -/
def Memory.read (m : Memory) (addr : Word) : Byte := m.byteAt addr.toNat

/-- `MemWrite(addr, 1, v)` (R7, R50). -/
def Memory.write (m : Memory) (addr : Word) (v : Byte) : Memory :=
  if v = Memory.unlisted then m.erase addr.toNat else (m.erase addr.toNat).insert addr.toNat v

/-- `MemRead(addr, 2)`: the low byte at `addr`, the high byte at `addr + 1` mod 65536 (R7, R53, R68). -/
def Memory.read16 (m : Memory) (addr : Word) : Word := join (m.read (addr + 1#16)) (m.read addr)

/-- `MemWrite(addr, 2, v)` (R7, R53, R68). -/
def Memory.write16 (m : Memory) (addr v : Word) : Memory := (m.write addr (lo8 v)).write (addr + 1#16) (hi8 v)

/-- Bytes written to rising addresses, mod 65536. -/
def Memory.writeBytes : Memory → Word → List Byte → Memory
  | m, _, [] => m
  | m, addr, v :: vs => Memory.writeBytes (m.write addr v) (addr + 1#16) vs

/-! ## Registers (10_state.md) -/

/-- `x[r]` (R7, R21). -/
def State.reg (s : State) : Reg → Byte
  | .b => s.b
  | .c => s.c
  | .d => s.d
  | .e => s.e
  | .h => s.h
  | .l => s.l
  | .a => s.a

/-- `x[r] <- v` (R7, R21). -/
def State.setReg (s : State) (r : Reg) (v : Byte) : State :=
  match r with
  | .b => { s with b := v }
  | .c => { s with c := v }
  | .d => { s with d := v }
  | .e => { s with e := v }
  | .h => { s with h := v }
  | .l => { s with l := v }
  | .a => { s with a := v }

/-- `xp[p]`: the first-named register is the high half (R7, R22). -/
def State.pair (s : State) : Pair → Word
  | .bc => join s.b s.c
  | .de => join s.d s.e
  | .hl => join s.h s.l
  | .sp => s.sp

/-- `xp[p] <- v` (R7, R22). -/
def State.setPair (s : State) (p : Pair) (v : Word) : State :=
  match p with
  | .bc => { s with b := hi8 v, c := lo8 v }
  | .de => { s with d := hi8 v, e := lo8 v }
  | .hl => { s with h := hi8 v, l := lo8 v }
  | .sp => { s with sp := v }

/-! ## The stack engine (43_stack.md) -/

/-- `Push16(v)`: the high byte at SP−1, the low byte at SP−2, SP lowered by 2, all mod 65536 (R190). -/
def State.push16 (s : State) (v : Word) : State :=
  { s with
    mem := (s.mem.write (s.sp - 1#16) (hi8 v)).write (s.sp - 2#16) (lo8 v)
    sp := s.sp - 2#16 }

/-- The word `Pop16()` returns: the low byte at SP, the high byte at SP+1 mod 65536 (R191). -/
def State.topWord (s : State) : Word := s.mem.read16 s.sp

/-- What `Pop16()` does to the state: SP raised by 2 mod 65536, memory unchanged (R191). -/
def State.dropWord (s : State) : State := { s with sp := s.sp + 2#16 }

/-! ## Interrupts and the decode error (60_exceptions.md) -/

/-- The entry address `8·n` (R59, R233, R277). -/
def vector (n : BitVec 3) : Word := 8#16 * n.setWidth 16

/-- The transfer that RST n and an accepted interrupt share: PC pushed, PC set to `8·n` (R233, R277, R279). -/
def State.enterVector (s : State) (n : BitVec 3) : State := { s.push16 s.pc with pc := vector n }

/-- `IntReq(n)` at an instruction boundary: accepted exactly when the core is running with interrupts enabled, and then
INTE is cleared, PC saved on the stack and PC set to `8·n`; otherwise it has no effect (R276, R277, R279). -/
def State.interruptRequest (s : State) (n : BitVec 3) : State :=
  if s.run = .running ∧ s.inte = true then { s.enterVector n with inte := false } else s

/-- RET, which is also how an interrupt handler returns: it restores PC only (R223, R280). -/
def State.ret (s : State) : State := { s.dropWord with pc := s.topWord }

/-- `DecodeError(opcode, pc)` for the byte `op` at the PC of the step's start: `RUN` changes and nothing else (R270,
R271; log 10). -/
def State.raiseDecodeError (s : State) (op : Byte) : State := { s with run := .decodeError op s.pc }

/-! ## The port bridge (45_io_port_bridge.md) -/

/-- The shift result: `(shift_reg >> (8 − shift_offset)) & 0xFF` (R246). -/
def State.shiftResult (s : State) : Byte := (s.shiftReg >>> (8 - s.shiftOffset.toNat)).setWidth 8

/-- `PortRead(port)` (R243 to R246, R249). -/
def State.portRead (s : State) (port : Byte) : Byte :=
  if port = Config.portInp1 then s.port1
  else if port = Config.portInp2 then s.port2
  else if port = Config.portShiftResult then s.shiftResult
  else Config.inUnmapped port

/-- `PortWrite(port, v)` (R243, R247, R248, R250). -/
def State.portWrite (s : State) (port v : Byte) : State :=
  if port = Config.portShiftOffset then { s with shiftOffset := v.setWidth 3 }
  else if port = Config.portShiftData then { s with shiftReg := join v (hi8 s.shiftReg) }
  else s

end Sys2Proof.Machine
end

