-- ==== Sys2Proof/Machine/Flags.lean ====
section
/-! DEFINITION. The ALU and flag engine (41_arithmetic.md R130 to R132, 42_logical.md R160) and the conditions
(44_control_flow.md R200). -/

namespace Sys2Proof.Machine

/-- How many bits of a byte are 1. -/
def onesCount (v : Byte) : Nat :=
  (v.getLsbD 0).toNat + (v.getLsbD 1).toNat + (v.getLsbD 2).toNat + (v.getLsbD 3).toNat +
    (v.getLsbD 4).toNat + (v.getLsbD 5).toNat + (v.getLsbD 6).toNat + (v.getLsbD 7).toNat

/-- `parity8(v)`: true when the number of 1 bits is even (R130). -/
def parity8 (v : Byte) : Bool := onesCount v % 2 == 0

/-- `szp(v)`, with the AC and CY that go beside it (R25, R130). -/
def resultFlags (v : Byte) (ac cy : Bool) : Flags :=
  { s := v.getLsbD 7, z := v == 0x00#8, ac := ac, p := parity8 v, cy := cy }

/-- A result of the ALU with its two carries. -/
structure AluResult where
  /-- The 8-bit result. -/
  value : Byte
  /-- Carry or borrow out of bit 7. -/
  cy : Bool
  /-- Carry out of bit 3. -/
  ac : Bool
deriving DecidableEq, Repr

/-- All five flags from a result (R26's first row). -/
def AluResult.flags (r : AluResult) : Flags := resultFlags r.value r.ac r.cy

/-- The flags of INR and DCR: all but CY, which keeps its value (R26, R146, R148). -/
def AluResult.flagsKeepingCarry (r : AluResult) (cy : Bool) : Flags := resultFlags r.value r.ac cy

/-- The 9-bit sum of two bytes and a carry (R131). -/
def wideSum (a b : Byte) (cin : Bool) : BitVec 9 := a.setWidth 9 + b.setWidth 9 + (BitVec.ofBool cin).setWidth 9

/-- The 5-bit sum of the two low nibbles and a carry (R131). -/
def nibbleSum (a b : Byte) (cin : Bool) : BitVec 5 :=
  (a.extractLsb' 0 4).setWidth 5 + (b.extractLsb' 0 4).setWidth 5 + (BitVec.ofBool cin).setWidth 5

/-- `add8(a, b, cin)` (R131). -/
def add8 (a b : Byte) (cin : Bool) : AluResult :=
  { value := (wideSum a b cin).setWidth 8
    cy := (wideSum a b cin).getLsbD 8
    ac := (nibbleSum a b cin).getLsbD 4 }

/-- `sub8(a, b, bin)`: the addition `a + ~b + (1 − bin)`; CY is the borrow, AC the adder's own carry (R132). -/
def sub8 (a b : Byte) (bin : Bool) : AluResult :=
  { value := (wideSum a (~~~b) (!bin)).setWidth 8
    cy := !(wideSum a (~~~b) (!bin)).getLsbD 8
    ac := (nibbleSum a (~~~b) (!bin)).getLsbD 4 }

/-- The flags of a logical operation: S, Z, P from the result, CY and AC forced to 0 (R160). -/
def logicFlags (v : Byte) : Flags := resultFlags v false false

/-- `cond(ccc)` (R86, R200). -/
def Flags.holds (f : Flags) : Cond → Bool
  | .nz => !f.z
  | .z => f.z
  | .nc => !f.cy
  | .c => f.cy
  | .po => !f.p
  | .pe => f.p
  | .p => !f.s
  | .m => f.s

/-- Whether DAA adds 0x06 (R153). -/
def daaLow (a : Byte) (f : Flags) : Bool := decide (9 < (a.extractLsb' 0 4).toNat) || f.ac

/-- Whether DAA adds 0x60 and sets CY (R153). -/
def daaHigh (a : Byte) (f : Flags) : Bool :=
  decide (9 < (a.extractLsb' 4 4).toNat) || f.cy ||
    (decide ((a.extractLsb' 4 4).toNat = 9) && decide (9 < (a.extractLsb' 0 4).toNat))

/-- `corr`, the value DAA adds (R153). -/
def daaCorrection (a : Byte) (f : Flags) : Byte :=
  (if daaLow a f then 0x06#8 else 0x00#8) + (if daaHigh a f then 0x60#8 else 0x00#8)

end Sys2Proof.Machine
end

