-- ==== Sys2Proof/Machine/Operands.lean ====
section
/-! DEFINITION. The operand forms: the memory operand M, the direct and the register-indirect operands, and the pair
operands of PUSH and POP are read and written here. -/

namespace Sys2Proof.Machine

/-- The address of the memory operand M: HL as it stands before the instruction's effect (R84, R111). -/
def State.addressM (s : State) : Word := s.pair .hl

/-- A read of the memory operand M (R111). -/
def State.readM (s : State) : Byte := s.mem.read s.addressM

/-- A store of one byte at an address (R7). -/
def State.store (s : State) (addr : Word) (v : Byte) : State := { s with mem := s.mem.write addr v }

/-- A write of the memory operand M (R111). -/
def State.storeM (s : State) (v : Byte) : State := s.store s.addressM v

/-- The address LDAX and STAX use (R122, R123). -/
def State.indexAddress (s : State) : IndexPair → Word
  | .bc => s.pair .bc
  | .de => s.pair .de

/-- The flags byte: S Z 0 AC 0 P 1 CY from bit 7 to bit 0 (R27). -/
def Flags.toByte (f : Flags) : Byte :=
  BitVec.ofBool f.s ++ BitVec.ofBool f.z ++ 0#1 ++ BitVec.ofBool f.ac ++ 0#1 ++ BitVec.ofBool f.p ++ 1#1 ++
    BitVec.ofBool f.cy

/-- The five flags a popped byte holds; bits 5, 3 and 1 are ignored (R27, R195). -/
def Flags.ofByte (v : Byte) : Flags :=
  { s := v.getLsbD 7, z := v.getLsbD 6, ac := v.getLsbD 4, p := v.getLsbD 2, cy := v.getLsbD 0 }

/-- The word PUSH stores: a pair, or PSW = A : FLAGS (R85, R192, R193). -/
def State.stackView (s : State) : StackPair → Word
  | .bc => s.pair .bc
  | .de => s.pair .de
  | .hl => s.pair .hl
  | .psw => join s.a s.flags.toByte

/-- The effect of POP on its destination: a pair, or A and the five flags (R85, R194, R195). -/
def State.setStackView (s : State) (p : StackPair) (v : Word) : State :=
  match p with
  | .bc => s.setPair .bc v
  | .de => s.setPair .de v
  | .hl => s.setPair .hl v
  | .psw => { s with a := hi8 v, flags := Flags.ofByte (lo8 v) }

end Sys2Proof.Machine
end

