-- ==== Sys2Proof/Machine/Arithmetic.lean ====
section
/-! DEFINITION. The arithmetic instructions (41_arithmetic.md): results wrap, nothing traps (R133). -/

namespace Sys2Proof.Machine

/-! ## The shared operations -/

/-- ADD and ADC with any source operand (R134 to R139). -/
def State.addAcc (s : State) (v : Byte) (cin : Bool) : State :=
  { s with a := (add8 s.a v cin).value, flags := (add8 s.a v cin).flags }

/-- SUB and SBB with any source operand (R140 to R145). -/
def State.subAcc (s : State) (v : Byte) (bin : Bool) : State :=
  { s with a := (sub8 s.a v bin).value, flags := (sub8 s.a v bin).flags }

/-- INR r (R146). -/
def State.inrReg (s : State) (r : Reg) : State :=
  { s.setReg r (add8 (s.reg r) 0x01#8 false).value with
    flags := (add8 (s.reg r) 0x01#8 false).flagsKeepingCarry s.flags.cy }

/-- INR M (R147). -/
def State.inrMem (s : State) : State :=
  { s.storeM (add8 s.readM 0x01#8 false).value with
    flags := (add8 s.readM 0x01#8 false).flagsKeepingCarry s.flags.cy }

/-- DCR r (R148). -/
def State.dcrReg (s : State) (r : Reg) : State :=
  { s.setReg r (sub8 (s.reg r) 0x01#8 false).value with
    flags := (sub8 (s.reg r) 0x01#8 false).flagsKeepingCarry s.flags.cy }

/-- DCR M (R149). -/
def State.dcrMem (s : State) : State :=
  { s.storeM (sub8 s.readM 0x01#8 false).value with
    flags := (sub8 s.readM 0x01#8 false).flagsKeepingCarry s.flags.cy }

/-- INX rp (R150). -/
def State.inxPair (s : State) (p : Pair) : State := s.setPair p (s.pair p + 1#16)

/-- DCX rp (R151). -/
def State.dcxPair (s : State) (p : Pair) : State := s.setPair p (s.pair p - 1#16)

/-- The 17-bit sum of DAD (R152). -/
def State.dadSum (s : State) (p : Pair) : BitVec 17 := (s.pair .hl).setWidth 17 + (s.pair p).setWidth 17

/-- DAD rp: HL and CY, and no other flag (R152). -/
def State.dadPair (s : State) (p : Pair) : State :=
  { s.setPair .hl ((s.dadSum p).setWidth 16) with flags := { s.flags with cy := (s.dadSum p).getLsbD 16 } }

/-- DAA: every condition tests A, AC and CY as they were before; CY is set when 0x60 is added and otherwise kept (R153). -/
def State.decimalAdjust (s : State) : State :=
  let r := add8 s.a (daaCorrection s.a s.flags) false
  { s with a := r.value, flags := resultFlags r.value r.ac (daaHigh s.a s.flags || s.flags.cy) }

/-! ## The meanings -/

/-- 0x03 `INX B` (R150). -/
def execInxB (s : State) : Result := .next (s.inxPair .bc)

/-- 0x04 `INR B` (R146). -/
def execInrB (s : State) : Result := .next (s.inrReg .b)

/-- 0x05 `DCR B` (R148). -/
def execDcrB (s : State) : Result := .next (s.dcrReg .b)

/-- 0x09 `DAD B` (R152). -/
def execDadB (s : State) : Result := .next (s.dadPair .bc)

/-- 0x0B `DCX B` (R151). -/
def execDcxB (s : State) : Result := .next (s.dcxPair .bc)

/-- 0x0C `INR C` (R146). -/
def execInrC (s : State) : Result := .next (s.inrReg .c)

/-- 0x0D `DCR C` (R148). -/
def execDcrC (s : State) : Result := .next (s.dcrReg .c)

/-- 0x13 `INX D` (R150). -/
def execInxD (s : State) : Result := .next (s.inxPair .de)

/-- 0x14 `INR D` (R146). -/
def execInrD (s : State) : Result := .next (s.inrReg .d)

/-- 0x15 `DCR D` (R148). -/
def execDcrD (s : State) : Result := .next (s.dcrReg .d)

/-- 0x19 `DAD D` (R152). -/
def execDadD (s : State) : Result := .next (s.dadPair .de)

/-- 0x1B `DCX D` (R151). -/
def execDcxD (s : State) : Result := .next (s.dcxPair .de)

/-- 0x1C `INR E` (R146). -/
def execInrE (s : State) : Result := .next (s.inrReg .e)

/-- 0x1D `DCR E` (R148). -/
def execDcrE (s : State) : Result := .next (s.dcrReg .e)

/-- 0x23 `INX H` (R150). -/
def execInxH (s : State) : Result := .next (s.inxPair .hl)

/-- 0x24 `INR H` (R146). -/
def execInrH (s : State) : Result := .next (s.inrReg .h)

/-- 0x25 `DCR H` (R148). -/
def execDcrH (s : State) : Result := .next (s.dcrReg .h)

/-- 0x27 `DAA` (R153). -/
def execDaa (s : State) : Result := .next s.decimalAdjust

/-- 0x29 `DAD H` (R152). -/
def execDadH (s : State) : Result := .next (s.dadPair .hl)

/-- 0x2B `DCX H` (R151). -/
def execDcxH (s : State) : Result := .next (s.dcxPair .hl)

/-- 0x2C `INR L` (R146). -/
def execInrL (s : State) : Result := .next (s.inrReg .l)

/-- 0x2D `DCR L` (R148). -/
def execDcrL (s : State) : Result := .next (s.dcrReg .l)

/-- 0x33 `INX SP` (R150). -/
def execInxSp (s : State) : Result := .next (s.inxPair .sp)

/-- 0x34 `INR M` (R147). -/
def execInrM (s : State) : Result := .next s.inrMem

/-- 0x35 `DCR M` (R149). -/
def execDcrM (s : State) : Result := .next s.dcrMem

/-- 0x39 `DAD SP` (R152). -/
def execDadSp (s : State) : Result := .next (s.dadPair .sp)

/-- 0x3B `DCX SP` (R151). -/
def execDcxSp (s : State) : Result := .next (s.dcxPair .sp)

/-- 0x3C `INR A` (R146). -/
def execInrA (s : State) : Result := .next (s.inrReg .a)

/-- 0x3D `DCR A` (R148). -/
def execDcrA (s : State) : Result := .next (s.dcrReg .a)

/-- 0x80 `ADD B` (R134). -/
def execAddB (s : State) : Result := .next (s.addAcc (s.reg .b) false)

/-- 0x81 `ADD C` (R134). -/
def execAddC (s : State) : Result := .next (s.addAcc (s.reg .c) false)

/-- 0x82 `ADD D` (R134). -/
def execAddD (s : State) : Result := .next (s.addAcc (s.reg .d) false)

/-- 0x83 `ADD E` (R134). -/
def execAddE (s : State) : Result := .next (s.addAcc (s.reg .e) false)

/-- 0x84 `ADD H` (R134). -/
def execAddH (s : State) : Result := .next (s.addAcc (s.reg .h) false)

/-- 0x85 `ADD L` (R134). -/
def execAddL (s : State) : Result := .next (s.addAcc (s.reg .l) false)

/-- 0x86 `ADD M` (R135). -/
def execAddM (s : State) : Result := .next (s.addAcc s.readM false)

/-- 0x87 `ADD A` (R134). -/
def execAddA (s : State) : Result := .next (s.addAcc (s.reg .a) false)

/-- 0x88 `ADC B` (R137). -/
def execAdcB (s : State) : Result := .next (s.addAcc (s.reg .b) s.flags.cy)

/-- 0x89 `ADC C` (R137). -/
def execAdcC (s : State) : Result := .next (s.addAcc (s.reg .c) s.flags.cy)

/-- 0x8A `ADC D` (R137). -/
def execAdcD (s : State) : Result := .next (s.addAcc (s.reg .d) s.flags.cy)

/-- 0x8B `ADC E` (R137). -/
def execAdcE (s : State) : Result := .next (s.addAcc (s.reg .e) s.flags.cy)

/-- 0x8C `ADC H` (R137). -/
def execAdcH (s : State) : Result := .next (s.addAcc (s.reg .h) s.flags.cy)

/-- 0x8D `ADC L` (R137). -/
def execAdcL (s : State) : Result := .next (s.addAcc (s.reg .l) s.flags.cy)

/-- 0x8E `ADC M` (R138). -/
def execAdcM (s : State) : Result := .next (s.addAcc s.readM s.flags.cy)

/-- 0x8F `ADC A` (R137). -/
def execAdcA (s : State) : Result := .next (s.addAcc (s.reg .a) s.flags.cy)

/-- 0x90 `SUB B` (R140). -/
def execSubB (s : State) : Result := .next (s.subAcc (s.reg .b) false)

/-- 0x91 `SUB C` (R140). -/
def execSubC (s : State) : Result := .next (s.subAcc (s.reg .c) false)

/-- 0x92 `SUB D` (R140). -/
def execSubD (s : State) : Result := .next (s.subAcc (s.reg .d) false)

/-- 0x93 `SUB E` (R140). -/
def execSubE (s : State) : Result := .next (s.subAcc (s.reg .e) false)

/-- 0x94 `SUB H` (R140). -/
def execSubH (s : State) : Result := .next (s.subAcc (s.reg .h) false)

/-- 0x95 `SUB L` (R140). -/
def execSubL (s : State) : Result := .next (s.subAcc (s.reg .l) false)

/-- 0x96 `SUB M` (R141). -/
def execSubM (s : State) : Result := .next (s.subAcc s.readM false)

/-- 0x97 `SUB A` (R140). -/
def execSubA (s : State) : Result := .next (s.subAcc (s.reg .a) false)

/-- 0x98 `SBB B` (R143). -/
def execSbbB (s : State) : Result := .next (s.subAcc (s.reg .b) s.flags.cy)

/-- 0x99 `SBB C` (R143). -/
def execSbbC (s : State) : Result := .next (s.subAcc (s.reg .c) s.flags.cy)

/-- 0x9A `SBB D` (R143). -/
def execSbbD (s : State) : Result := .next (s.subAcc (s.reg .d) s.flags.cy)

/-- 0x9B `SBB E` (R143). -/
def execSbbE (s : State) : Result := .next (s.subAcc (s.reg .e) s.flags.cy)

/-- 0x9C `SBB H` (R143). -/
def execSbbH (s : State) : Result := .next (s.subAcc (s.reg .h) s.flags.cy)

/-- 0x9D `SBB L` (R143). -/
def execSbbL (s : State) : Result := .next (s.subAcc (s.reg .l) s.flags.cy)

/-- 0x9E `SBB M` (R144). -/
def execSbbM (s : State) : Result := .next (s.subAcc s.readM s.flags.cy)

/-- 0x9F `SBB A` (R143). -/
def execSbbA (s : State) : Result := .next (s.subAcc (s.reg .a) s.flags.cy)

/-- 0xC6 `ADI d8` (R136). -/
def execAdi (v : Byte) (s : State) : Result := .next (s.addAcc v false)

/-- 0xCE `ACI d8` (R139). -/
def execAci (v : Byte) (s : State) : Result := .next (s.addAcc v s.flags.cy)

/-- 0xD6 `SUI d8` (R142). -/
def execSui (v : Byte) (s : State) : Result := .next (s.subAcc v false)

/-- 0xDE `SBI d8` (R145). -/
def execSbi (v : Byte) (s : State) : Result := .next (s.subAcc v s.flags.cy)

end Sys2Proof.Machine
end

