-- ==== Sys2Proof/Machine/Control.lean ====
section
/-! DEFINITION. The machine-control instructions (46_machine_control.md). -/

namespace Sys2Proof.Machine

/-! ## The shared operations -/

/-- HLT (R261). -/
def State.halt (s : State) : State := { s with run := .halted }

/-- EI and DI, at once (R262, R263). -/
def State.setInte (s : State) (on : Bool) : State := { s with inte := on }

/-! ## The meanings -/

/-- 0x00 `NOP` (R260). -/
def execNop (s : State) : Result := .next s

/-- 0x08 `NOP*` (R264). -/
def execNop08 (s : State) : Result := .next s

/-- 0x10 `NOP*` (R264). -/
def execNop10 (s : State) : Result := .next s

/-- 0x18 `NOP*` (R264). -/
def execNop18 (s : State) : Result := .next s

/-- 0x20 `NOP*` (R264). -/
def execNop20 (s : State) : Result := .next s

/-- 0x28 `NOP*` (R264). -/
def execNop28 (s : State) : Result := .next s

/-- 0x30 `NOP*` (R264). -/
def execNop30 (s : State) : Result := .next s

/-- 0x38 `NOP*` (R264). -/
def execNop38 (s : State) : Result := .next s

/-- 0x76 `HLT` (R261). -/
def execHlt (s : State) : Result := .next s.halt

/-- 0xCB `NOP*` (R264). -/
def execNopCB (s : State) : Result := .next s

/-- 0xD9 `NOP*` (R264). -/
def execNopD9 (s : State) : Result := .next s

/-- 0xDD `NOP*` (R264). -/
def execNopDD (s : State) : Result := .next s

/-- 0xED `NOP*` (R264). -/
def execNopED (s : State) : Result := .next s

/-- 0xF3 `DI` (R263). -/
def execDi (s : State) : Result := .next (s.setInte false)

/-- 0xFB `EI` (R262). -/
def execEi (s : State) : Result := .next (s.setInte true)

/-- 0xFD `NOP*` (R264). -/
def execNopFD (s : State) : Result := .next s

end Sys2Proof.Machine
end

