-- ==== Sys2Proof/Machine/ControlFlow.lean ====
section
/-! DEFINITION. The control-flow instructions (44_control_flow.md). PC is already past the instruction's bytes when an
effect is applied, so what a call pushes and where a condition that fails leaves PC is the next instruction (R211). No
flag changes. -/

namespace Sys2Proof.Machine

/-! ## The shared operations -/

/-- JMP and PCHL (R201, R234). -/
def State.jump (s : State) (target : Word) : State := { s with pc := target }

/-- Jcc (R202). -/
def State.jumpIf (s : State) (cond : Cond) (target : Word) : State := if s.flags.holds cond then s.jump target else s

/-- CALL (R212). -/
def State.call (s : State) (target : Word) : State := (s.push16 s.pc).jump target

/-- Ccc: the push and the transfer, or neither (R213). -/
def State.callIf (s : State) (cond : Cond) (target : Word) : State := if s.flags.holds cond then s.call target else s

/-- Rcc (R224). -/
def State.retIf (s : State) (cond : Cond) : State := if s.flags.holds cond then s.ret else s

/-! ## The meanings -/

/-- 0xC0 `RNZ` (R225). -/
def execRnz (s : State) : Result := .next (s.retIf .nz)

/-- 0xC2 `JNZ a16` (R203). -/
def execJnz (w : Word) (s : State) : Result := .next (s.jumpIf .nz w)

/-- 0xC3 `JMP a16` (R201). -/
def execJmp (w : Word) (s : State) : Result := .next (s.jump w)

/-- 0xC4 `CNZ a16` (R214). -/
def execCnz (w : Word) (s : State) : Result := .next (s.callIf .nz w)

/-- 0xC7 `RST 0` (R233). -/
def execRst0 (s : State) : Result := .next (s.enterVector 0)

/-- 0xC8 `RZ` (R226). -/
def execRz (s : State) : Result := .next (s.retIf .z)

/-- 0xC9 `RET` (R223). -/
def execRet (s : State) : Result := .next s.ret

/-- 0xCA `JZ a16` (R204). -/
def execJz (w : Word) (s : State) : Result := .next (s.jumpIf .z w)

/-- 0xCC `CZ a16` (R215). -/
def execCz (w : Word) (s : State) : Result := .next (s.callIf .z w)

/-- 0xCD `CALL a16` (R212). -/
def execCall (w : Word) (s : State) : Result := .next (s.call w)

/-- 0xCF `RST 1` (R233). -/
def execRst1 (s : State) : Result := .next (s.enterVector 1)

/-- 0xD0 `RNC` (R227). -/
def execRnc (s : State) : Result := .next (s.retIf .nc)

/-- 0xD2 `JNC a16` (R205). -/
def execJnc (w : Word) (s : State) : Result := .next (s.jumpIf .nc w)

/-- 0xD4 `CNC a16` (R216). -/
def execCnc (w : Word) (s : State) : Result := .next (s.callIf .nc w)

/-- 0xD7 `RST 2` (R233). -/
def execRst2 (s : State) : Result := .next (s.enterVector 2)

/-- 0xD8 `RC` (R228). -/
def execRc (s : State) : Result := .next (s.retIf .c)

/-- 0xDA `JC a16` (R206). -/
def execJc (w : Word) (s : State) : Result := .next (s.jumpIf .c w)

/-- 0xDC `CC a16` (R217). -/
def execCc (w : Word) (s : State) : Result := .next (s.callIf .c w)

/-- 0xDF `RST 3` (R233). -/
def execRst3 (s : State) : Result := .next (s.enterVector 3)

/-- 0xE0 `RPO` (R229). -/
def execRpo (s : State) : Result := .next (s.retIf .po)

/-- 0xE2 `JPO a16` (R207). -/
def execJpo (w : Word) (s : State) : Result := .next (s.jumpIf .po w)

/-- 0xE4 `CPO a16` (R218). -/
def execCpo (w : Word) (s : State) : Result := .next (s.callIf .po w)

/-- 0xE7 `RST 4` (R233). -/
def execRst4 (s : State) : Result := .next (s.enterVector 4)

/-- 0xE8 `RPE` (R230). -/
def execRpe (s : State) : Result := .next (s.retIf .pe)

/-- 0xE9 `PCHL` (R234). -/
def execPchl (s : State) : Result := .next (s.jump (s.pair .hl))

/-- 0xEA `JPE a16` (R208). -/
def execJpe (w : Word) (s : State) : Result := .next (s.jumpIf .pe w)

/-- 0xEC `CPE a16` (R219). -/
def execCpe (w : Word) (s : State) : Result := .next (s.callIf .pe w)

/-- 0xEF `RST 5` (R233). -/
def execRst5 (s : State) : Result := .next (s.enterVector 5)

/-- 0xF0 `RP` (R231). -/
def execRp (s : State) : Result := .next (s.retIf .p)

/-- 0xF2 `JP a16` (R209). -/
def execJp (w : Word) (s : State) : Result := .next (s.jumpIf .p w)

/-- 0xF4 `CP a16` (R220). -/
def execCp (w : Word) (s : State) : Result := .next (s.callIf .p w)

/-- 0xF7 `RST 6` (R233). -/
def execRst6 (s : State) : Result := .next (s.enterVector 6)

/-- 0xF8 `RM` (R232). -/
def execRm (s : State) : Result := .next (s.retIf .m)

/-- 0xFA `JM a16` (R210). -/
def execJm (w : Word) (s : State) : Result := .next (s.jumpIf .m w)

/-- 0xFC `CM a16` (R221). -/
def execCm (w : Word) (s : State) : Result := .next (s.callIf .m w)

/-- 0xFF `RST 7` (R233). -/
def execRst7 (s : State) : Result := .next (s.enterVector 7)

end Sys2Proof.Machine
end

