-- ==== Sys2Proof/Machine/DataTransfer.lean ====
section
/-! DEFINITION. The data-transfer instructions (40_data_transfer.md): none writes a flag, INTE, RUN or the bridge (R110). -/

namespace Sys2Proof.Machine

/-! ## The shared operations -/

/-- MOV r1,r2 (R112). -/
def State.moveReg (s : State) (dst src : Reg) : State := s.setReg dst (s.reg src)

/-- MOV r,M, at the HL before the move (R113). -/
def State.moveFromM (s : State) (dst : Reg) : State := s.setReg dst s.readM

/-- A load of A from an address (R118, R122). -/
def State.loadAcc (s : State) (addr : Word) : State := { s with a := s.mem.read addr }

/-- A store of A to an address (R119, R123). -/
def State.storeAcc (s : State) (addr : Word) : State := s.store addr s.a

/-- LHLD: L from the address, H from the next one (R120). -/
def State.loadHL (s : State) (addr : Word) : State := s.setPair .hl (s.mem.read16 addr)

/-- SHLD: L to the address, H to the next one (R121). -/
def State.storeHL (s : State) (addr : Word) : State := { s with mem := s.mem.write16 addr (s.pair .hl) }

/-- XCHG: H with D, L with E (R124). -/
def State.exchangeDEHL (s : State) : State := { s with d := s.h, e := s.l, h := s.d, l := s.e }

/-! ## The meanings -/

/-- 0x01 `LXI B,d16` (R117). -/
def execLxiB (w : Word) (s : State) : Result := .next (s.setPair .bc w)

/-- 0x02 `STAX B` (R123). -/
def execStaxB (s : State) : Result := .next (s.storeAcc (s.indexAddress .bc))

/-- 0x06 `MVI B,d8` (R115). -/
def execMviB (v : Byte) (s : State) : Result := .next (s.setReg .b v)

/-- 0x0A `LDAX B` (R122). -/
def execLdaxB (s : State) : Result := .next (s.loadAcc (s.indexAddress .bc))

/-- 0x0E `MVI C,d8` (R115). -/
def execMviC (v : Byte) (s : State) : Result := .next (s.setReg .c v)

/-- 0x11 `LXI D,d16` (R117). -/
def execLxiD (w : Word) (s : State) : Result := .next (s.setPair .de w)

/-- 0x12 `STAX D` (R123). -/
def execStaxD (s : State) : Result := .next (s.storeAcc (s.indexAddress .de))

/-- 0x16 `MVI D,d8` (R115). -/
def execMviD (v : Byte) (s : State) : Result := .next (s.setReg .d v)

/-- 0x1A `LDAX D` (R122). -/
def execLdaxD (s : State) : Result := .next (s.loadAcc (s.indexAddress .de))

/-- 0x1E `MVI E,d8` (R115). -/
def execMviE (v : Byte) (s : State) : Result := .next (s.setReg .e v)

/-- 0x21 `LXI H,d16` (R117). -/
def execLxiH (w : Word) (s : State) : Result := .next (s.setPair .hl w)

/-- 0x22 `SHLD a16` (R121). -/
def execShld (w : Word) (s : State) : Result := .next (s.storeHL w)

/-- 0x26 `MVI H,d8` (R115). -/
def execMviH (v : Byte) (s : State) : Result := .next (s.setReg .h v)

/-- 0x2A `LHLD a16` (R120). -/
def execLhld (w : Word) (s : State) : Result := .next (s.loadHL w)

/-- 0x2E `MVI L,d8` (R115). -/
def execMviL (v : Byte) (s : State) : Result := .next (s.setReg .l v)

/-- 0x31 `LXI SP,d16` (R117). -/
def execLxiSp (w : Word) (s : State) : Result := .next (s.setPair .sp w)

/-- 0x32 `STA a16` (R119). -/
def execSta (w : Word) (s : State) : Result := .next (s.storeAcc w)

/-- 0x36 `MVI M,d8` (R116). -/
def execMviM (v : Byte) (s : State) : Result := .next (s.storeM v)

/-- 0x3A `LDA a16` (R118). -/
def execLda (w : Word) (s : State) : Result := .next (s.loadAcc w)

/-- 0x3E `MVI A,d8` (R115). -/
def execMviA (v : Byte) (s : State) : Result := .next (s.setReg .a v)

/-- 0x40 `MOV B,B` (R112). -/
def execMovBB (s : State) : Result := .next (s.moveReg .b .b)

/-- 0x41 `MOV B,C` (R112). -/
def execMovBC (s : State) : Result := .next (s.moveReg .b .c)

/-- 0x42 `MOV B,D` (R112). -/
def execMovBD (s : State) : Result := .next (s.moveReg .b .d)

/-- 0x43 `MOV B,E` (R112). -/
def execMovBE (s : State) : Result := .next (s.moveReg .b .e)

/-- 0x44 `MOV B,H` (R112). -/
def execMovBH (s : State) : Result := .next (s.moveReg .b .h)

/-- 0x45 `MOV B,L` (R112). -/
def execMovBL (s : State) : Result := .next (s.moveReg .b .l)

/-- 0x46 `MOV B,M` (R113). -/
def execMovBM (s : State) : Result := .next (s.moveFromM .b)

/-- 0x47 `MOV B,A` (R112). -/
def execMovBA (s : State) : Result := .next (s.moveReg .b .a)

/-- 0x48 `MOV C,B` (R112). -/
def execMovCB (s : State) : Result := .next (s.moveReg .c .b)

/-- 0x49 `MOV C,C` (R112). -/
def execMovCC (s : State) : Result := .next (s.moveReg .c .c)

/-- 0x4A `MOV C,D` (R112). -/
def execMovCD (s : State) : Result := .next (s.moveReg .c .d)

/-- 0x4B `MOV C,E` (R112). -/
def execMovCE (s : State) : Result := .next (s.moveReg .c .e)

/-- 0x4C `MOV C,H` (R112). -/
def execMovCH (s : State) : Result := .next (s.moveReg .c .h)

/-- 0x4D `MOV C,L` (R112). -/
def execMovCL (s : State) : Result := .next (s.moveReg .c .l)

/-- 0x4E `MOV C,M` (R113). -/
def execMovCM (s : State) : Result := .next (s.moveFromM .c)

/-- 0x4F `MOV C,A` (R112). -/
def execMovCA (s : State) : Result := .next (s.moveReg .c .a)

/-- 0x50 `MOV D,B` (R112). -/
def execMovDB (s : State) : Result := .next (s.moveReg .d .b)

/-- 0x51 `MOV D,C` (R112). -/
def execMovDC (s : State) : Result := .next (s.moveReg .d .c)

/-- 0x52 `MOV D,D` (R112). -/
def execMovDD (s : State) : Result := .next (s.moveReg .d .d)

/-- 0x53 `MOV D,E` (R112). -/
def execMovDE (s : State) : Result := .next (s.moveReg .d .e)

/-- 0x54 `MOV D,H` (R112). -/
def execMovDH (s : State) : Result := .next (s.moveReg .d .h)

/-- 0x55 `MOV D,L` (R112). -/
def execMovDL (s : State) : Result := .next (s.moveReg .d .l)

/-- 0x56 `MOV D,M` (R113). -/
def execMovDM (s : State) : Result := .next (s.moveFromM .d)

/-- 0x57 `MOV D,A` (R112). -/
def execMovDA (s : State) : Result := .next (s.moveReg .d .a)

/-- 0x58 `MOV E,B` (R112). -/
def execMovEB (s : State) : Result := .next (s.moveReg .e .b)

/-- 0x59 `MOV E,C` (R112). -/
def execMovEC (s : State) : Result := .next (s.moveReg .e .c)

/-- 0x5A `MOV E,D` (R112). -/
def execMovED (s : State) : Result := .next (s.moveReg .e .d)

/-- 0x5B `MOV E,E` (R112). -/
def execMovEE (s : State) : Result := .next (s.moveReg .e .e)

/-- 0x5C `MOV E,H` (R112). -/
def execMovEH (s : State) : Result := .next (s.moveReg .e .h)

/-- 0x5D `MOV E,L` (R112). -/
def execMovEL (s : State) : Result := .next (s.moveReg .e .l)

/-- 0x5E `MOV E,M` (R113). -/
def execMovEM (s : State) : Result := .next (s.moveFromM .e)

/-- 0x5F `MOV E,A` (R112). -/
def execMovEA (s : State) : Result := .next (s.moveReg .e .a)

/-- 0x60 `MOV H,B` (R112). -/
def execMovHB (s : State) : Result := .next (s.moveReg .h .b)

/-- 0x61 `MOV H,C` (R112). -/
def execMovHC (s : State) : Result := .next (s.moveReg .h .c)

/-- 0x62 `MOV H,D` (R112). -/
def execMovHD (s : State) : Result := .next (s.moveReg .h .d)

/-- 0x63 `MOV H,E` (R112). -/
def execMovHE (s : State) : Result := .next (s.moveReg .h .e)

/-- 0x64 `MOV H,H` (R112). -/
def execMovHH (s : State) : Result := .next (s.moveReg .h .h)

/-- 0x65 `MOV H,L` (R112). -/
def execMovHL (s : State) : Result := .next (s.moveReg .h .l)

/-- 0x66 `MOV H,M` (R113). -/
def execMovHM (s : State) : Result := .next (s.moveFromM .h)

/-- 0x67 `MOV H,A` (R112). -/
def execMovHA (s : State) : Result := .next (s.moveReg .h .a)

/-- 0x68 `MOV L,B` (R112). -/
def execMovLB (s : State) : Result := .next (s.moveReg .l .b)

/-- 0x69 `MOV L,C` (R112). -/
def execMovLC (s : State) : Result := .next (s.moveReg .l .c)

/-- 0x6A `MOV L,D` (R112). -/
def execMovLD (s : State) : Result := .next (s.moveReg .l .d)

/-- 0x6B `MOV L,E` (R112). -/
def execMovLE (s : State) : Result := .next (s.moveReg .l .e)

/-- 0x6C `MOV L,H` (R112). -/
def execMovLH (s : State) : Result := .next (s.moveReg .l .h)

/-- 0x6D `MOV L,L` (R112). -/
def execMovLL (s : State) : Result := .next (s.moveReg .l .l)

/-- 0x6E `MOV L,M` (R113). -/
def execMovLM (s : State) : Result := .next (s.moveFromM .l)

/-- 0x6F `MOV L,A` (R112). -/
def execMovLA (s : State) : Result := .next (s.moveReg .l .a)

/-- 0x70 `MOV M,B` (R114). -/
def execMovMB (s : State) : Result := .next (s.storeM (s.reg .b))

/-- 0x71 `MOV M,C` (R114). -/
def execMovMC (s : State) : Result := .next (s.storeM (s.reg .c))

/-- 0x72 `MOV M,D` (R114). -/
def execMovMD (s : State) : Result := .next (s.storeM (s.reg .d))

/-- 0x73 `MOV M,E` (R114). -/
def execMovME (s : State) : Result := .next (s.storeM (s.reg .e))

/-- 0x74 `MOV M,H` (R114). -/
def execMovMH (s : State) : Result := .next (s.storeM (s.reg .h))

/-- 0x75 `MOV M,L` (R114). -/
def execMovML (s : State) : Result := .next (s.storeM (s.reg .l))

/-- 0x77 `MOV M,A` (R114). -/
def execMovMA (s : State) : Result := .next (s.storeM (s.reg .a))

/-- 0x78 `MOV A,B` (R112). -/
def execMovAB (s : State) : Result := .next (s.moveReg .a .b)

/-- 0x79 `MOV A,C` (R112). -/
def execMovAC (s : State) : Result := .next (s.moveReg .a .c)

/-- 0x7A `MOV A,D` (R112). -/
def execMovAD (s : State) : Result := .next (s.moveReg .a .d)

/-- 0x7B `MOV A,E` (R112). -/
def execMovAE (s : State) : Result := .next (s.moveReg .a .e)

/-- 0x7C `MOV A,H` (R112). -/
def execMovAH (s : State) : Result := .next (s.moveReg .a .h)

/-- 0x7D `MOV A,L` (R112). -/
def execMovAL (s : State) : Result := .next (s.moveReg .a .l)

/-- 0x7E `MOV A,M` (R113). -/
def execMovAM (s : State) : Result := .next (s.moveFromM .a)

/-- 0x7F `MOV A,A` (R112). -/
def execMovAA (s : State) : Result := .next (s.moveReg .a .a)

/-- 0xEB `XCHG` (R124). -/
def execXchg (s : State) : Result := .next s.exchangeDEHL

end Sys2Proof.Machine
end

