-- ==== Sys2Proof/Machine/Logical.lean ====
section
/-! DEFINITION. The logical, compare, rotate and carry instructions (42_logical.md). -/

namespace Sys2Proof.Machine

/-! ## The shared operations -/

/-- ANA and ANI (R160, R162 to R164). -/
def State.andAcc (s : State) (v : Byte) : State := { s with a := s.a &&& v, flags := logicFlags (s.a &&& v) }

/-- XRA and XRI (R160, R165 to R167). -/
def State.xorAcc (s : State) (v : Byte) : State := { s with a := s.a ^^^ v, flags := logicFlags (s.a ^^^ v) }

/-- ORA and ORI (R160, R168 to R170). -/
def State.orAcc (s : State) (v : Byte) : State := { s with a := s.a ||| v, flags := logicFlags (s.a ||| v) }

/-- CMP and CPI: the flags of the subtraction, A kept (R161, R171 to R173). -/
def State.compareAcc (s : State) (v : Byte) : State := { s with flags := (sub8 s.a v false).flags }

/-- A and CY replaced, every other flag kept: the shape of the four rotates (R26). -/
def State.setAccCarry (s : State) (v : Byte) (cy : Bool) : State := { s with a := v, flags := { s.flags with cy := cy } }

/-- RLC: `x[A][6:0] : x[A][7]`, CY from the old bit 7 (R174). -/
def State.rotateLeft (s : State) : State :=
  s.setAccCarry (s.a.extractLsb' 0 7 ++ BitVec.ofBool (s.a.getLsbD 7)) (s.a.getLsbD 7)

/-- RRC: `x[A][0] : x[A][7:1]`, CY from the old bit 0 (R175). -/
def State.rotateRight (s : State) : State :=
  s.setAccCarry (BitVec.ofBool (s.a.getLsbD 0) ++ s.a.extractLsb' 1 7) (s.a.getLsbD 0)

/-- RAL: `x[A][6:0] : CY`, CY from the old bit 7 (R176). -/
def State.rotateLeftCarry (s : State) : State :=
  s.setAccCarry (s.a.extractLsb' 0 7 ++ BitVec.ofBool s.flags.cy) (s.a.getLsbD 7)

/-- RAR: `CY : x[A][7:1]`, CY from the old bit 0 (R177). -/
def State.rotateRightCarry (s : State) : State :=
  s.setAccCarry (BitVec.ofBool s.flags.cy ++ s.a.extractLsb' 1 7) (s.a.getLsbD 0)

/-- CMA (R178). -/
def State.complementAcc (s : State) : State := { s with a := ~~~s.a }

/-- CMC (R179). -/
def State.complementCarry (s : State) : State := { s with flags := { s.flags with cy := !s.flags.cy } }

/-- STC (R180). -/
def State.setCarry (s : State) : State := { s with flags := { s.flags with cy := true } }

/-! ## The meanings -/

/-- 0x07 `RLC` (R174). -/
def execRlc (s : State) : Result := .next s.rotateLeft

/-- 0x0F `RRC` (R175). -/
def execRrc (s : State) : Result := .next s.rotateRight

/-- 0x17 `RAL` (R176). -/
def execRal (s : State) : Result := .next s.rotateLeftCarry

/-- 0x1F `RAR` (R177). -/
def execRar (s : State) : Result := .next s.rotateRightCarry

/-- 0x2F `CMA` (R178). -/
def execCma (s : State) : Result := .next s.complementAcc

/-- 0x37 `STC` (R180). -/
def execStc (s : State) : Result := .next s.setCarry

/-- 0x3F `CMC` (R179). -/
def execCmc (s : State) : Result := .next s.complementCarry

/-- 0xA0 `ANA B` (R162). -/
def execAnaB (s : State) : Result := .next (s.andAcc (s.reg .b))

/-- 0xA1 `ANA C` (R162). -/
def execAnaC (s : State) : Result := .next (s.andAcc (s.reg .c))

/-- 0xA2 `ANA D` (R162). -/
def execAnaD (s : State) : Result := .next (s.andAcc (s.reg .d))

/-- 0xA3 `ANA E` (R162). -/
def execAnaE (s : State) : Result := .next (s.andAcc (s.reg .e))

/-- 0xA4 `ANA H` (R162). -/
def execAnaH (s : State) : Result := .next (s.andAcc (s.reg .h))

/-- 0xA5 `ANA L` (R162). -/
def execAnaL (s : State) : Result := .next (s.andAcc (s.reg .l))

/-- 0xA6 `ANA M` (R163). -/
def execAnaM (s : State) : Result := .next (s.andAcc s.readM)

/-- 0xA7 `ANA A` (R162). -/
def execAnaA (s : State) : Result := .next (s.andAcc (s.reg .a))

/-- 0xA8 `XRA B` (R165). -/
def execXraB (s : State) : Result := .next (s.xorAcc (s.reg .b))

/-- 0xA9 `XRA C` (R165). -/
def execXraC (s : State) : Result := .next (s.xorAcc (s.reg .c))

/-- 0xAA `XRA D` (R165). -/
def execXraD (s : State) : Result := .next (s.xorAcc (s.reg .d))

/-- 0xAB `XRA E` (R165). -/
def execXraE (s : State) : Result := .next (s.xorAcc (s.reg .e))

/-- 0xAC `XRA H` (R165). -/
def execXraH (s : State) : Result := .next (s.xorAcc (s.reg .h))

/-- 0xAD `XRA L` (R165). -/
def execXraL (s : State) : Result := .next (s.xorAcc (s.reg .l))

/-- 0xAE `XRA M` (R166). -/
def execXraM (s : State) : Result := .next (s.xorAcc s.readM)

/-- 0xAF `XRA A` (R165). -/
def execXraA (s : State) : Result := .next (s.xorAcc (s.reg .a))

/-- 0xB0 `ORA B` (R168). -/
def execOraB (s : State) : Result := .next (s.orAcc (s.reg .b))

/-- 0xB1 `ORA C` (R168). -/
def execOraC (s : State) : Result := .next (s.orAcc (s.reg .c))

/-- 0xB2 `ORA D` (R168). -/
def execOraD (s : State) : Result := .next (s.orAcc (s.reg .d))

/-- 0xB3 `ORA E` (R168). -/
def execOraE (s : State) : Result := .next (s.orAcc (s.reg .e))

/-- 0xB4 `ORA H` (R168). -/
def execOraH (s : State) : Result := .next (s.orAcc (s.reg .h))

/-- 0xB5 `ORA L` (R168). -/
def execOraL (s : State) : Result := .next (s.orAcc (s.reg .l))

/-- 0xB6 `ORA M` (R169). -/
def execOraM (s : State) : Result := .next (s.orAcc s.readM)

/-- 0xB7 `ORA A` (R168). -/
def execOraA (s : State) : Result := .next (s.orAcc (s.reg .a))

/-- 0xB8 `CMP B` (R171). -/
def execCmpB (s : State) : Result := .next (s.compareAcc (s.reg .b))

/-- 0xB9 `CMP C` (R171). -/
def execCmpC (s : State) : Result := .next (s.compareAcc (s.reg .c))

/-- 0xBA `CMP D` (R171). -/
def execCmpD (s : State) : Result := .next (s.compareAcc (s.reg .d))

/-- 0xBB `CMP E` (R171). -/
def execCmpE (s : State) : Result := .next (s.compareAcc (s.reg .e))

/-- 0xBC `CMP H` (R171). -/
def execCmpH (s : State) : Result := .next (s.compareAcc (s.reg .h))

/-- 0xBD `CMP L` (R171). -/
def execCmpL (s : State) : Result := .next (s.compareAcc (s.reg .l))

/-- 0xBE `CMP M` (R172). -/
def execCmpM (s : State) : Result := .next (s.compareAcc s.readM)

/-- 0xBF `CMP A` (R171). -/
def execCmpA (s : State) : Result := .next (s.compareAcc (s.reg .a))

/-- 0xE6 `ANI d8` (R164). -/
def execAni (v : Byte) (s : State) : Result := .next (s.andAcc v)

/-- 0xEE `XRI d8` (R167). -/
def execXri (v : Byte) (s : State) : Result := .next (s.xorAcc v)

/-- 0xF6 `ORI d8` (R170). -/
def execOri (v : Byte) (s : State) : Result := .next (s.orAcc v)

/-- 0xFE `CPI d8` (R173). -/
def execCpi (v : Byte) (s : State) : Result := .next (s.compareAcc v)

end Sys2Proof.Machine
end

