-- ==== Sys2Proof/Machine/PortIo.lean ====
section
/-! DEFINITION. The I/O instructions (45_io_port_bridge.md); the bridge itself is in Ops.lean. -/

namespace Sys2Proof.Machine

/-! ## The shared operations -/

/-- IN port (R240). -/
def State.inputAcc (s : State) (port : Byte) : State := { s with a := s.portRead port }

/-! ## The meanings -/

/-- 0xD3 `OUT port` (R241). -/
def execOutPort (v : Byte) (s : State) : Result := .next (s.portWrite v s.a)

/-- 0xDB `IN port` (R240). -/
def execInPort (v : Byte) (s : State) : Result := .next (s.inputAcc v)

end Sys2Proof.Machine
end

