-- ==== Sys2Proof/Machine/Stack.lean ====
section
/-! DEFINITION. The stack instructions (43_stack.md). -/

namespace Sys2Proof.Machine

/-! ## The shared operations -/

/-- POP: the destination from the popped word, SP raised by 2 (R194, R195). -/
def State.popInto (s : State) (p : StackPair) : State := s.dropWord.setStackView p s.topWord

/-- XTHL: both reads before both writes, SP unchanged (R196). -/
def State.exchangeTop (s : State) : State :=
  { s.setPair .hl s.topWord with mem := s.mem.write16 s.sp (s.pair .hl) }

/-- SPHL (R197). -/
def State.loadSP (s : State) : State := { s with sp := s.pair .hl }

/-! ## The meanings -/

/-- 0xC1 `POP B` (R194). -/
def execPopB (s : State) : Result := .next (s.popInto .bc)

/-- 0xC5 `PUSH B` (R192). -/
def execPushB (s : State) : Result := .next (s.push16 (s.stackView .bc))

/-- 0xD1 `POP D` (R194). -/
def execPopD (s : State) : Result := .next (s.popInto .de)

/-- 0xD5 `PUSH D` (R192). -/
def execPushD (s : State) : Result := .next (s.push16 (s.stackView .de))

/-- 0xE1 `POP H` (R194). -/
def execPopH (s : State) : Result := .next (s.popInto .hl)

/-- 0xE3 `XTHL` (R196). -/
def execXthl (s : State) : Result := .next s.exchangeTop

/-- 0xE5 `PUSH H` (R192). -/
def execPushH (s : State) : Result := .next (s.push16 (s.stackView .hl))

/-- 0xF1 `POP PSW` (R195). -/
def execPopPsw (s : State) : Result := .next (s.popInto .psw)

/-- 0xF5 `PUSH PSW` (R193). -/
def execPushPsw (s : State) : Result := .next (s.push16 (s.stackView .psw))

/-- 0xF9 `SPHL` (R197). -/
def execSphl (s : State) : Result := .next s.loadSP

end Sys2Proof.Machine
end

