-- ==== Sys2Proof/Machine/Fetch.lean ====
section
/-! DEFINITION. Fetching an instruction's bytes at PC (00_scope.md R8), and one step of the core (60_exceptions.md R271). -/

namespace Sys2Proof.Machine

/-- `Fetch8()` (R8). -/
def State.fetch8 (s : State) : Byte × State := (s.mem.read s.pc, { s with pc := s.pc + 1#16 })

/-- `Fetch16()`: the low byte first (R8). -/
def State.fetch16 (s : State) : Word × State :=
  let lo := s.fetch8
  let hi := lo.2.fetch8
  (join hi.1 lo.1, hi.2)

/-- What the fetch of one instruction gives. -/
inductive Fetched where
  /-- The instruction, and the state with PC past all its bytes. -/
  | instr (i : Instr) (s : State)
  /-- The opcode byte has no entry in the table. -/
  | noRow (op : Byte)
deriving DecidableEq, Repr

/-- The opcode byte, its row, and the immediate bytes the row asks for (R271). -/
def State.fetchInstr (s : State) : Fetched :=
  let op := s.fetch8
  match tableRow op.1 with
  | none => .noRow op.1
  | some (.bare i) => .instr i op.2
  | some (.imm8 f) => .instr (f op.2.fetch8.1) op.2.fetch8.2
  | some (.imm16 f) => .instr (f op.2.fetch16.1) op.2.fetch16.2

/-- One instruction fetched and executed; an opcode without a row raises the decode error with PC unmoved (R271). -/
def State.runInstruction (s : State) : Result :=
  match s.fetchInstr with
  | .instr i t => exec i t
  | .noRow op => .next (s.raiseDecodeError op)

/-- One `Step` (R271, R309): in the three states that are not running the core has no step, and a `Step` asked for
changes nothing (R29, R273; log 3). -/
def State.stepOnce (s : State) : Result :=
  match s.run with
  | .running => s.runInstruction
  | .halted => .next s
  | .decodeError _ _ => .next s
  | .stopped => .next s

/-- A running core whose next instruction bytes, from PC on, are `bytes` (log 5). -/
def State.withBytesAtPc (s : State) (bytes : List Byte) : State :=
  { s with mem := s.mem.writeBytes s.pc bytes, run := .running }

end Sys2Proof.Machine
end

