-- ==== Sys2Proof/Machine/Step.lean ====
section
/-! DEFINITION. The step, and the placing of one instruction where the step fetches its next one. -/

namespace Sys2Proof.Machine

/-- One step of the core (R271, R309). -/
def step (s : State) : Host.Outcome State Fault Refusal := s.stepOnce

/-- `s` with the instruction word `w`, numbered as the opcode table numbers it, stored at PC and the core running, so that
the next step fetches and runs it (log 5). -/
def State.withFetchWord (s : State) (nbits w : Nat) : State := s.withBytesAtPc (tableBytes nbits w)

end Sys2Proof.Machine
end

