-- ==== Sys2Proof/Machine/HostInterface.lean ====
section
/-! DEFINITION. The transitions of the outside world, each at an instruction boundary (70_reset_and_hazards.md R306 to
R312), and the machine together with them (60_exceptions.md R278). `Construct` is `State.reset`, `Step` is `step`,
`IntReq` is `State.interruptRequest`. -/

namespace Sys2Proof.Machine

/-- `Reset()`: the state after construction, but the bridge state stays as it is (R37, R300). -/
def State.applyReset (s : State) : State :=
  { State.reset with port1 := s.port1, port2 := s.port2, shiftReg := s.shiftReg, shiftOffset := s.shiftOffset }

/-- `LoadImage(base, bytes)`; an image that does not fit is the host's failure and loads nothing (R302, R308; log 7). -/
def State.loadImage (s : State) (base : Nat) (bytes : List Byte) : Result :=
  if base + bytes.length ≤ Config.memBytes then
    .next { s with mem := s.mem.writeBytes (BitVec.ofNat 16 base) bytes }
  else .fault (.romLoadFailure base bytes.length)

/-- `RequestStop()` (R311). -/
def State.requestStop (s : State) : State := if s.run = .running then { s with run := .stopped } else s

/-- The two latches of PortState (R31). -/
inductive Latch where
  | one
  | two
deriving DecidableEq, Repr

/-- `SetPort(k, v)`: one latch replaced whole, in any run state (R251, R312). -/
def State.setPort (s : State) (k : Latch) (v : Byte) : State :=
  match k with
  | .one => { s with port1 := v }
  | .two => { s with port2 := v }

/-- `FramebufferView()`: the bytes 0x2400 to 0x3FFF as they stand (R310). -/
def State.framebufferView (s : State) : List Byte :=
  (List.range Config.framebufferBytes).map fun k => s.mem.read (Config.framebufferBase + BitVec.ofNat 16 k)

/-- A result's next state handed on; a fault or a refusal stops. -/
def andThen (r : Result) (f : State → Result) : Result :=
  match r with
  | .next s => f s
  | .fault e => .fault e
  | .refused e => .refused e

/-- `Run(budget)` with a budget of instructions: steps until the budget is used up or the core is not running (R309). -/
def runInstructions : Nat → State → Result
  | 0, s => .next s
  | budget + 1, s => if s.run = .running then andThen (step s) (runInstructions budget) else .next s

/-! ## A boundary -/

/-- A piece of the ROM image: where it goes and its bytes (R308). -/
structure Image where
  base : Nat
  bytes : List Byte
deriving DecidableEq, Repr

/-- What the host presents at one boundary (R278; log 8). A `reset` carries the images loaded after it, since an image
is loaded only between Reset and the first step (R302, R308). -/
structure Boundary where
  reset : Option (List Image)
  stop : Bool
  latches : List (Latch × Byte)
  requests : List (BitVec 3)
deriving DecidableEq, Repr

/-- A boundary at which nothing happens. -/
def Boundary.quiet : Boundary := { reset := none, stop := false, latches := [], requests := [] }

/-- The images loaded one after another. -/
def State.loadImages (s : State) : List Image → Result
  | [] => .next s
  | i :: more => andThen (s.loadImage i.base i.bytes) fun t => t.loadImages more

/-- The Reset of a boundary, with its images (R302). -/
def State.atReset (s : State) : Option (List Image) → Result
  | none => .next s
  | some images => s.applyReset.loadImages images

/-- The events of a boundary after Reset, in the order of R278: stop request, latch writes, interrupt requests. -/
def State.atEvents (s : State) (x : Boundary) : State :=
  let stopped := if x.stop then s.requestStop else s
  let latched := x.latches.foldl (fun t w => t.setPort w.1 w.2) stopped
  x.requests.foldl (fun t n => t.interruptRequest n) latched

/-- All the events of a boundary (R278). -/
def State.atBoundary (s : State) (x : Boundary) : Result := andThen (s.atReset x.reset) fun t => .next (t.atEvents x)

/-- A boundary and then the next step (R278). -/
def systemStep (x : Boundary) (s : State) : Result := andThen (s.atBoundary x) step

/-- A run of the whole system: one boundary before each step. -/
def systemRun : List Boundary → State → Result
  | [], s => .next s
  | x :: more, s => andThen (systemStep x s) (systemRun more)

end Sys2Proof.Machine
end

