-- ==== Sys2Proof/Machine/Timing.lean ====
section
/-! DEFINITION. The informative table of clock counts (70_reset_and_hazards.md R314), for a host that counts its budget in
cycles (R309). No state holds a count and no transition depends on one (R39, R284; log 9). -/

namespace Sys2Proof.Machine

/-- The clock count of a form; `taken` says whether its condition holds (R314). -/
def Form.clockCycles (taken : Bool) : Form → Nat
  | .nop | .undocumented _ | .ei | .di | .rlc | .rrc | .ral | .rar | .daa | .cma | .stc | .cmc | .xchg => 4
  | .mov _ _ | .inr _ | .dcr _ | .inx _ | .dcx _ | .pchl | .sphl => 5
  | .alu _ _ => 4
  | .movFromM _ | .movToM _ | .aluM _ | .mvi _ _ | .aluI _ _ | .ldax _ | .stax _ | .hlt => 7
  | .inrM | .dcrM | .mviM _ | .lxi _ _ | .dad _ | .pop _ | .jmp _ | .jcc _ _ | .ret | .inp _ | .out _ => 10
  | .push _ | .rst _ => 11
  | .rcc _ => if taken then 11 else 5
  | .lda _ | .sta _ => 13
  | .lhld _ | .shld _ => 16
  | .call _ => 17
  | .ccc _ _ => if taken then 17 else 11
  | .xthl => 18

/-- Whether the condition of a conditional form holds. -/
def Form.taken (f : Flags) : Form → Bool
  | .jcc cond _ | .ccc cond _ | .rcc cond => f.holds cond
  | _ => true

/-- The clock count of the next step of a running core (R314). -/
def State.nextCycles (s : State) : Nat :=
  match s.fetchInstr with
  | .instr i _ => Form.clockCycles (Form.taken s.flags i.form) i.form
  | .noRow _ => 0

/-- `Run(budget)` with a budget of clock cycles: a step is taken while the budget is not used up (R309, R314). `fuel`
bounds the number of steps; every instruction costs at least four cycles, so `fuel = budget` never runs out first. -/
def runCyclesFrom : Nat → Nat → State → Result
  | 0, _, s => .next s
  | fuel + 1, budget, s =>
    if s.run = .running ∧ 0 < budget then
      andThen (step s) (runCyclesFrom fuel (budget - s.nextCycles))
    else .next s

/-- `Run(budget)` in clock cycles (R309, R314). -/
def runCycles (budget : Nat) (s : State) : Result := runCyclesFrom budget budget s

end Sys2Proof.Machine
end

