-- ==== Sys2Proof/Safety.lean ====
section
/-! DEFINITION. The terms in which the claims speak of a good state and of the states a system can reach. -/

namespace Sys2Proof

open Sys2Proof.Machine

/-- The run state is the decode error (R270). -/
def Machine.RunState.isDecodeError : RunState → Bool
  | .running => false
  | .halted => false
  | .decodeError _ _ => true
  | .stopped => false

/-- The invariant of the machine: memory is in its canonical form inside the 65536 addresses (R36, R50), and the core is
not in the decode error, which no byte can raise (R95, R270). The other clauses of R36 hold by the widths of the fields. -/
def Machine.State.Inv (s : State) : Prop := s.mem.wf = true ∧ s.run.isDecodeError = false

/-- The states the system reaches: the constructed core, then boundaries of host events, each followed by a step (R278). -/
inductive Reachable : State → Prop
  | constructed : Reachable State.reset
  | next (x : Boundary) {s t : State} (h : Reachable s) (e : systemStep x s = .next t) : Reachable t

end Sys2Proof
end

