-- ==== Sys2Proof/Certificates/Slice0/Obligations.lean ====
section
/-! DEFINITION. The statements for the provers. They speak of results in whole numbers and of encodings in byte values, written
here again from the rules, not in the model's own operations; `Claim` holds the words they share. -/

namespace Sys2Proof.Claim

open Sys2Proof.Machine

/-! ## Encodings, in numbers -/

/-- R84's codes. -/
def regNumber : Reg → Nat
  | .b => 0
  | .c => 1
  | .d => 2
  | .e => 3
  | .h => 4
  | .l => 5
  | .a => 7

/-- R85's codes in LXI, INX, DCX, DAD. -/
def pairNumber : Pair → Nat
  | .bc => 0
  | .de => 1
  | .hl => 2
  | .sp => 3

/-- R85's codes in PUSH, POP. -/
def stackPairNumber : StackPair → Nat
  | .bc => 0
  | .de => 1
  | .hl => 2
  | .psw => 3

/-- `opcode[4]` of LDAX and STAX (R82). -/
def indexNumber : IndexPair → Nat
  | .bc => 0
  | .de => 1

/-- R86's codes. -/
def condNumber : Cond → Nat
  | .nz => 0
  | .z => 1
  | .nc => 2
  | .c => 3
  | .po => 4
  | .pe => 5
  | .p => 6
  | .m => 7

/-- R87's codes. -/
def aluNumber : AluOp → Nat
  | .add => 0
  | .adc => 1
  | .sub => 2
  | .sbb => 3
  | .ana => 4
  | .xra => 5
  | .ora => 6
  | .cmp => 7

/-- The byte with a number. -/
def byte (n : Nat) : Byte := BitVec.ofNat 8 n

/-- The two bytes of a 16-bit immediate, the low one first (R81, R88). -/
def lowHigh (w : Word) : List Byte := [byte (w.toNat % 256), byte (w.toNat / 256)]

/-- The encoder gives these bytes, and the decoder reads the instruction from them, whatever follows. -/
def EncodedAs (i : Instr) (bytes : List Byte) : Prop :=
  encode i = bytes ∧ ∀ rest, decode (bytes ++ rest) = .instr i rest

/-! ## Results and flags, in numbers -/

/-- The value of a pair's two halves: high·256 + low (R22). -/
def word (hi lo : Byte) : Word := BitVec.ofNat 16 (hi.toNat * 256 + lo.toNat)

/-- The address of the operand M (R111). -/
def addressHL (s : State) : Word := word s.h s.l

/-- The number of 1 bits is even (R130). -/
def evenOnes (v : Byte) : Bool := decide ((List.range 8).countP (fun k => v.toNat.testBit k) % 2 = 0)

/-- All five flags: S, Z and P from a result (R25, R130), AC and CY as given. -/
def flagsOf (v : Byte) (ac cy : Bool) : Flags :=
  { s := decide (128 ≤ v.toNat), z := decide (v.toNat = 0), ac := ac, p := evenOnes v, cy := cy }

/-- The table of R200. -/
def condTrue (f : Flags) : Cond → Prop
  | .nz => f.z = false
  | .z => f.z = true
  | .nc => f.cy = false
  | .c => f.cy = true
  | .po => f.p = false
  | .pe => f.p = true
  | .p => f.s = false
  | .m => f.s = true

/-- Nothing but general registers differs. -/
def OnlyRegisters (s t : State) : Prop :=
  t = { s with b := t.b, c := t.c, d := t.d, e := t.e, h := t.h, l := t.l, a := t.a }

/-- Of memory, exactly the byte at `x` may differ, and it holds `v`. -/
def StoresByte (s t : State) (x : Word) (v : Byte) : Prop :=
  ∀ y, t.mem.read y = if y = x then v else s.mem.read y

/-- Of memory, exactly the bytes at `x` and `x + 1` may differ, and they hold `lo` and `hi`. -/
def StoresWord (s t : State) (x : Word) (lo hi : Byte) : Prop :=
  ∀ y, t.mem.read y = if y = x then lo else if y = x + 1#16 then hi else s.mem.read y

/-- What `Push16` of the word hi : lo does: SP lowered by 2, the two bytes below the old SP, and nothing else but what
`rest` also changes (R190). -/
def Pushes (s t rest : State) (hi lo : Byte) : Prop :=
  t = { rest with sp := s.sp - 2#16, mem := t.mem } ∧
  ∀ y, t.mem.read y = if y = s.sp - 1#16 then hi else if y = s.sp - 2#16 then lo else s.mem.read y

/-- The high byte of PC. -/
def pcHigh (s : State) : Byte := byte (s.pc.toNat / 256)

/-- The low byte of PC. -/
def pcLow (s : State) : Byte := byte (s.pc.toNat % 256)

/-- The second operand of the two-operand ALU instructions: a register, M, or an immediate (R84, R87). -/
inductive Source where
  | register (r : Reg)
  | memory
  | immediate (v : Byte)

/-- The form with this operand. -/
def Source.form (op : AluOp) : Source → Form
  | .register r => .alu op r
  | .memory => .aluM op
  | .immediate v => .aluI op v

/-- The bytes with this operand (R91, R92). -/
def Source.bytes (op : AluOp) : Source → List Byte
  | .register r => [byte (0x80 + 8 * aluNumber op + regNumber r)]
  | .memory => [byte (0x80 + 8 * aluNumber op + 6)]
  | .immediate v => [byte (0xC6 + 8 * aluNumber op), v]

/-- The operand's value. -/
def Source.value (s : State) : Source → Byte
  | .register r => s.reg r
  | .memory => s.mem.read (addressHL s)
  | .immediate v => v

/-- The state after adding `v` and the carry `c` to A, in whole numbers (R131). -/
def added (s : State) (v : Byte) (c : Bool) : State :=
  { s with
    a := byte (s.a.toNat + v.toNat + c.toNat)
    flags := flagsOf (byte (s.a.toNat + v.toNat + c.toNat))
      (decide (16 ≤ s.a.toNat % 16 + v.toNat % 16 + c.toNat)) (decide (256 ≤ s.a.toNat + v.toNat + c.toNat)) }

/-- The flags of A − `v` − the borrow `c`, in whole numbers (R132). -/
def differenceFlags (a v : Byte) (c : Bool) : Flags :=
  flagsOf (BitVec.ofInt 8 ((a.toNat : Int) - v.toNat - c.toNat))
    (decide (v.toNat % 16 + c.toNat ≤ a.toNat % 16)) (decide (a.toNat < v.toNat + c.toNat))

/-- The state after subtracting `v` and the borrow `c` from A (R132). -/
def subtracted (s : State) (v : Byte) (c : Bool) : State :=
  { s with
    a := BitVec.ofInt 8 ((s.a.toNat : Int) - v.toNat - c.toNat)
    flags := differenceFlags s.a v c }

/-- The state after a logical operation with the result `v` (R160). -/
def logical (s : State) (v : Byte) : State := { s with a := v, flags := flagsOf v false false }

/-- DAA adds 6 (R153). -/
def daaLowDue (s : State) : Prop := 9 < s.a.toNat % 16 ∨ s.flags.ac = true

/-- DAA adds 0x60 (R153). -/
def daaHighDue (s : State) : Prop :=
  9 < s.a.toNat / 16 ∨ s.flags.cy = true ∨ (s.a.toNat / 16 = 9 ∧ 9 < s.a.toNat % 16)

/-- A valid packed-BCD byte: both nibbles 0 to 9. -/
def ValidBcd (v : Byte) : Prop := v.toNat % 16 ≤ 9 ∧ v.toNat / 16 ≤ 9

/-- The number a packed-BCD byte stands for. -/
def bcd (v : Byte) : Nat := 10 * (v.toNat / 16) + v.toNat % 16

/-- The flags byte of R27. -/
def flagsByte (f : Flags) : Byte :=
  byte (f.s.toNat * 128 + f.z.toNat * 64 + f.ac.toNat * 16 + f.p.toNat * 4 + 2 + f.cy.toNat)

/-- The high and the low byte PUSH stores (R192, R193). -/
def pushHigh (s : State) : StackPair → Byte
  | .bc => s.b
  | .de => s.d
  | .hl => s.h
  | .psw => s.a

/-- See `pushHigh`. -/
def pushLow (s : State) : StackPair → Byte
  | .bc => s.c
  | .de => s.e
  | .hl => s.l
  | .psw => flagsByte s.flags

/-- The state after POP, with the byte at the old SP and the one above it (R194, R195). -/
def popped (s : State) (lo hi : Byte) : StackPair → State
  | .bc => { s with b := hi, c := lo, sp := s.sp + 2#16 }
  | .de => { s with d := hi, e := lo, sp := s.sp + 2#16 }
  | .hl => { s with h := hi, l := lo, sp := s.sp + 2#16 }
  | .psw =>
    { s with
      a := hi
      flags :=
        { s := lo.toNat.testBit 7, z := lo.toNat.testBit 6, ac := lo.toNat.testBit 4, p := lo.toNat.testBit 2,
          cy := lo.toNat.testBit 0 }
      sp := s.sp + 2#16 }

/-- The state after a return: PC from the two bytes at SP, SP raised by 2 (R191, R223). -/
def returned (s : State) : State :=
  { s with pc := word (s.mem.read (s.sp + 1#16)) (s.mem.read s.sp), sp := s.sp + 2#16 }

/-- The answer of an IN port (R243 to R246, R249). -/
def portAnswer (s : State) (port : Byte) : Byte :=
  if port.toNat = 1 then s.port1
  else if port.toNat = 2 then s.port2
  else if port.toNat = 3 then byte (s.shiftReg.toNat / 2 ^ (8 - s.shiftOffset.toNat) % 256)
  else Config.inUnmapped port

/-- The state after an OUT of A (R243, R247, R248, R250). -/
def afterOut (s : State) (port : Byte) : State :=
  if port.toNat = 2 then { s with shiftOffset := BitVec.ofNat 3 (s.a.toNat % 8) }
  else if port.toNat = 4 then { s with shiftReg := BitVec.ofNat 16 (s.a.toNat * 256 + s.shiftReg.toNat / 256) }
  else s

/-! ## Runs and bytes in memory -/

/-- Instructions executed one after another. -/
def execAll : List Instr → State → Result
  | [], s => .next s
  | i :: more, s => andThen (exec i s) (execAll more)

/-- Bytes written one after another. -/
def writeAll (m : Memory) (ws : List (Word × Byte)) : Memory := ws.foldl (fun n w => n.write w.1 w.2) m

/-- Bytes in memory from an address on, mod 65536. -/
def BytesAt (s : State) (x : Word) (bytes : List Byte) : Prop :=
  ∀ k b, bytes[k]? = some b → s.mem.read (x + BitVec.ofNat 16 k) = b

/-- The bytes of R93. -/
def undocumentedBytes : List Byte :=
  [0x08#8, 0x10#8, 0x18#8, 0x20#8, 0x28#8, 0x30#8, 0x38#8, 0xCB#8, 0xD9#8, 0xDD#8, 0xED#8, 0xFD#8]

/-! ## Which forms write what, whole-machine -/

/-- Forms that may write a flag other than CY (R26). -/
def writesResultFlags : Form → Bool
  | .alu _ _ | .aluM _ | .aluI _ _ | .inr _ | .inrM | .dcr _ | .dcrM | .daa | .pop .psw => true
  | _ => false

/-- Forms that may write CY (R26). -/
def writesCarry : Form → Bool
  | .alu _ _ | .aluM _ | .aluI _ _ | .daa | .pop .psw | .dad _ | .rlc | .rrc | .ral | .rar | .stc | .cmc => true
  | _ => false

/-- Forms that may write memory (R56's rows with a write). -/
def writesMemory : Form → Bool
  | .movToM _ | .mviM _ | .inrM | .dcrM | .sta _ | .shld _ | .stax _ | .push _ | .call _ | .ccc _ _ | .rst _ | .xthl => true
  | _ => false

/-- Forms that may write SP (R23). -/
def writesSp : Form → Bool
  | .lxi .sp _ | .inx .sp | .dcx .sp | .sphl | .push _ | .pop _ | .call _ | .ccc _ _ | .rst _ | .ret | .rcc _ => true
  | _ => false

/-- Forms that may write PC after the fetch (R24: "only the control-transfer instructions"). -/
def writesPc : Form → Bool
  | .jmp _ | .jcc _ _ | .call _ | .ccc _ _ | .ret | .rcc _ | .rst _ | .pchl => true
  | _ => false

end Sys2Proof.Claim

open Sys2Proof Sys2Proof.Machine Sys2Proof.Claim

/-! ## Encoding and the step -/

/-- A few words of R89 to R93 written out bit by bit (a sanity statement). -/
def Obligations.WordsOfTheSpecDecode : Prop :=
  decode [0b01000001#8] = .instr .movBC [] ∧ decode [0b00100001#8, 0x03#8, 0x01#8] = .instr (.lxiH 0x0103#16) [] ∧
  decode [0b10000010#8] = .instr .addD [] ∧ decode [0b11111110#8, 0x40#8] = .instr (.cpi 0x40#8) [] ∧
  decode [0b11110101#8] = .instr .pushPsw [] ∧ decode [0b11011010#8, 0x00#8, 0x20#8] = .instr (.jc 0x2000#16) [] ∧
  decode [0b11011011#8, 0x01#8] = .instr (.inPort 0x01#8) [] ∧ decode [0b01110110#8] = .instr .hlt [] ∧
  decode [0b11001011#8, 0x34#8, 0x12#8] = .instr .nopCB [0x34#8, 0x12#8]

/-- Decoding an encoded instruction gives it back with every operand, whatever bytes follow. -/
def Obligations.DecodeAfterEncode : Prop :=
  ∀ (i : Instr) (rest : List Byte), decode (encode i ++ rest) = .instr i rest

/-- Bytes have one meaning: what decodes to an instruction is its encoding and the rest. -/
def Obligations.EncodeAfterDecode : Prop :=
  ∀ (bytes : List Byte) (i : Instr) (rest : List Byte), decode bytes = .instr i rest → bytes = encode i ++ rest

/-- R83 and R95: every opcode byte is an instruction, of the length R83 lists, and nothing is rejected but a list that ends
inside an instruction. -/
def Obligations.EveryOpcodeDecodesAtItsLength : Prop :=
  (∀ (op x y : Byte) (rest : List Byte), ∃ i, i.length = opcodeLength op ∧
    decode (op :: x :: y :: rest) = .instr i ((x :: y :: rest).drop (opcodeLength op - 1))) ∧
  (∀ (op : Byte) (rest : List Byte), rest.length + 1 < opcodeLength op → decode (op :: rest) = .truncated op) ∧
  (∀ (bytes : List Byte) (op : Byte), decode bytes ≠ .noRow op)

/-- R93: the twelve undocumented bytes, and no others, decode to the undocumented no-operations, each one byte long. -/
def Obligations.UndocumentedBytesAreTheTwelve : Prop :=
  ∀ (op : Byte) (rest : List Byte),
    (∃ i u, i.form = .undocumented u ∧ decode (op :: rest) = .instr i rest) ↔ op ∈ undocumentedBytes

/-- A step of a running core is the decoded instruction's `exec`, with PC past its bytes: from the bytes at PC, and from an
instruction's own encoding standing there. -/
def Obligations.StepRunsTheDecodedInstruction : Prop :=
  (∀ (s : State) (i : Instr) (rest : List Byte), s.run = .running →
    decode [s.mem.read s.pc, s.mem.read (s.pc + 1#16), s.mem.read (s.pc + 2#16)] = .instr i rest →
    step s = exec i { s with pc := s.pc + BitVec.ofNat 16 i.length }) ∧
  (∀ (s : State) (i : Instr), s.run = .running → BytesAt s s.pc (encode i) →
    step s = exec i { s with pc := s.pc + BitVec.ofNat 16 i.length })

/-! ## Memory and registers -/

/-- R50: a read returns the byte last written to its address: after any writes one after another, the last of them to an
address decides it, and an address not written keeps its byte; Reset fills every address with zero. -/
def Obligations.ReadGivesTheLastWrite : Prop :=
  (∀ (m : Memory) (ws : List (Word × Byte)) (y : Word),
    (writeAll m ws).read y = match ws.reverse.find? (fun w => w.1 == y) with
      | some w => w.2
      | none => m.read y) ∧
  (∀ (s : State) (x : Word), s.applyReset.mem.read x = 0x00#8)

/-- Memory's list form (log 11): writes keep it, two memories in it that hold the same bytes are equal, and so writes to
different addresses may change places. -/
def Obligations.MemoryFormIsCanonical : Prop :=
  (∀ (m : Memory) (ws : List (Word × Byte)), m.wf = true → (writeAll m ws).wf = true) ∧
  (∀ m m' : Memory, m.wf = true → m'.wf = true → (∀ x, m.read x = m'.read x) → m = m') ∧
  (∀ (m : Memory) (x y : Word) (u v : Byte), m.wf = true → x ≠ y →
    (m.write x u).write y v = (m.write y v).write x u)

/-- R54: a word is its two bytes, the low one at the lower address, at every address, also across 0xFFFF. -/
def Obligations.WordsAreTwoBytes : Prop :=
  (∀ (m : Memory) (x : Word), (m.read16 x).toNat = (m.read (x + 1#16)).toNat * 256 + (m.read x).toNat) ∧
  (∀ (m : Memory) (x w y : Word), (m.write16 x w).read y =
    if y = x then byte (w.toNat % 256) else if y = x + 1#16 then byte (w.toNat / 256) else m.read y) ∧
  (∀ (m : Memory) (x : Word) (lo hi : Byte), ((m.write x lo).write (x + 1#16) hi).read16 x = word hi lo)

/-- R22: the pairs are views of their halves, in both directions. -/
def Obligations.PairsAreViewsOfTheirHalves : Prop :=
  ∀ (s : State) (v : Byte) (w : Word),
    (s.pair .bc).toNat = s.b.toNat * 256 + s.c.toNat ∧ (s.pair .de).toNat = s.d.toNat * 256 + s.e.toNat ∧
    (s.pair .hl).toNat = s.h.toNat * 256 + s.l.toNat ∧ s.pair .sp = s.sp ∧
    ((s.setReg .b v).pair .bc).toNat = v.toNat * 256 + s.c.toNat ∧
    ((s.setReg .c v).pair .bc).toNat = s.b.toNat * 256 + v.toNat ∧
    ((s.setReg .d v).pair .de).toNat = v.toNat * 256 + s.e.toNat ∧
    ((s.setReg .e v).pair .de).toNat = s.d.toNat * 256 + v.toNat ∧
    ((s.setReg .h v).pair .hl).toNat = v.toNat * 256 + s.l.toNat ∧
    ((s.setReg .l v).pair .hl).toNat = s.h.toNat * 256 + v.toNat ∧
    s.setPair .bc w = { s with b := byte (w.toNat / 256), c := byte (w.toNat % 256) } ∧
    s.setPair .de w = { s with d := byte (w.toNat / 256), e := byte (w.toNat % 256) } ∧
    s.setPair .hl w = { s with h := byte (w.toNat / 256), l := byte (w.toNat % 256) } ∧
    s.setPair .sp w = { s with sp := w } ∧ s.stackView .psw = word s.a (flagsByte s.flags)

/-! ## Data transfer -/

/-- R112, R115: a register gets another's value or the immediate, and nothing else changes; a self-move changes nothing. -/
def Obligations.RegisterMovesGiveTheSource : Prop :=
  (∀ (i : Instr) (dst src : Reg), i.form = .mov dst src →
    EncodedAs i [byte (0x40 + 8 * regNumber dst + regNumber src)] ∧
    ∀ s, ∃ t, exec i s = .next t ∧ OnlyRegisters s t ∧ ∀ q, t.reg q = if q = dst then s.reg src else s.reg q) ∧
  (∀ (i : Instr) (dst : Reg) (v : Byte), i.form = .mvi dst v →
    EncodedAs i [byte (0x06 + 8 * regNumber dst), v] ∧
    ∀ s, ∃ t, exec i s = .next t ∧ OnlyRegisters s t ∧ ∀ q, t.reg q = if q = dst then v else s.reg q)

/-- R113, R118, R120, R122: loads from memory, at the address formed before the load; memory and all else unchanged. -/
def Obligations.LoadsReadTheAddressedByte : Prop :=
  (∀ (i : Instr) (dst : Reg), i.form = .movFromM dst → EncodedAs i [byte (0x46 + 8 * regNumber dst)] ∧
    ∀ s, ∃ t, exec i s = .next t ∧ OnlyRegisters s t ∧
      ∀ q, t.reg q = if q = dst then s.mem.read (addressHL s) else s.reg q) ∧
  (∀ (i : Instr) (w : Word), i.form = .lda w → EncodedAs i (0x3A#8 :: lowHigh w) ∧
    ∀ s, exec i s = .next { s with a := s.mem.read w }) ∧
  (∀ (i : Instr) (w : Word), i.form = .lhld w → EncodedAs i (0x2A#8 :: lowHigh w) ∧
    ∀ s, exec i s = .next { s with l := s.mem.read w, h := s.mem.read (w + 1#16) }) ∧
  (∀ (i : Instr) (p : IndexPair), i.form = .ldax p → EncodedAs i [byte (0x0A + 16 * indexNumber p)] ∧
    ∀ s, exec i s = .next { s with a := s.mem.read (match p with | .bc => word s.b s.c | .de => word s.d s.e) })

/-- R117, R124: LXI and XCHG. -/
def Obligations.PairLoadsAndExchange : Prop :=
  (∀ (i : Instr) (p : Pair) (w : Word), i.form = .lxi p w → EncodedAs i (byte (0x01 + 16 * pairNumber p) :: lowHigh w) ∧
    ∀ s, exec i s = .next (match p with
      | .bc => { s with b := byte (w.toNat / 256), c := byte (w.toNat % 256) }
      | .de => { s with d := byte (w.toNat / 256), e := byte (w.toNat % 256) }
      | .hl => { s with h := byte (w.toNat / 256), l := byte (w.toNat % 256) }
      | .sp => { s with sp := w })) ∧
  EncodedAs .xchg [0xEB#8] ∧
  (∀ s, exec .xchg s = .next { s with h := s.d, l := s.e, d := s.h, e := s.l }) ∧
  (∀ s, execAll [.xchg, .xchg] s = .next s)

/-- R114, R116, R119, R121, R123: the stores, their addresses and bytes, and nothing else changed. -/
def Obligations.StoresWriteTheAddressedBytes : Prop :=
  (∀ (i : Instr) (src : Reg), i.form = .movToM src → EncodedAs i [byte (0x70 + regNumber src)] ∧
    ∀ s, ∃ t, exec i s = .next t ∧ t = { s with mem := t.mem } ∧ StoresByte s t (addressHL s) (s.reg src)) ∧
  (∀ (i : Instr) (v : Byte), i.form = .mviM v → EncodedAs i [0x36#8, v] ∧
    ∀ s, ∃ t, exec i s = .next t ∧ t = { s with mem := t.mem } ∧ StoresByte s t (addressHL s) v) ∧
  (∀ (i : Instr) (w : Word), i.form = .sta w → EncodedAs i (0x32#8 :: lowHigh w) ∧
    ∀ s, ∃ t, exec i s = .next t ∧ t = { s with mem := t.mem } ∧ StoresByte s t w s.a) ∧
  (∀ (i : Instr) (w : Word), i.form = .shld w → EncodedAs i (0x22#8 :: lowHigh w) ∧
    ∀ s, ∃ t, exec i s = .next t ∧ t = { s with mem := t.mem } ∧ StoresWord s t w s.l s.h) ∧
  (∀ (i : Instr) (p : IndexPair), i.form = .stax p → EncodedAs i [byte (0x02 + 16 * indexNumber p)] ∧
    ∀ s, ∃ t, exec i s = .next t ∧ t = { s with mem := t.mem } ∧
      StoresByte s t (match p with | .bc => word s.b s.c | .de => word s.d s.e) s.a)

/-! ## Arithmetic -/

/-- R130, R131, R134 to R139: ADD, ADI, ADC, ACI with every operand. -/
def Obligations.AddFormsGiveSumAndFlags : Prop :=
  ∀ (src : Source) (i : Instr),
    (i.form = src.form .add → EncodedAs i (src.bytes .add) ∧
      ∀ s, exec i s = .next (added s (src.value s) false)) ∧
    (i.form = src.form .adc → EncodedAs i (src.bytes .adc) ∧
      ∀ s, exec i s = .next (added s (src.value s) s.flags.cy))

/-- R130, R132, R140 to R145: SUB, SUI, SBB, SBI with every operand; CY is the borrow, AC is 1 when the low nibble needs
none. -/
def Obligations.SubtractFormsGiveDifferenceAndFlags : Prop :=
  ∀ (src : Source) (i : Instr),
    (i.form = src.form .sub → EncodedAs i (src.bytes .sub) ∧
      ∀ s, exec i s = .next (subtracted s (src.value s) false)) ∧
    (i.form = src.form .sbb → EncodedAs i (src.bytes .sbb) ∧
      ∀ s, exec i s = .next (subtracted s (src.value s) s.flags.cy))

/-- R146, R148: INR r and DCR r, with CY kept. -/
def Obligations.IncrementAndDecrementRegister : Prop :=
  (∀ (i : Instr) (r : Reg), i.form = .inr r → EncodedAs i [byte (0x04 + 8 * regNumber r)] ∧
    ∀ s, ∃ t, exec i s = .next t ∧ OnlyRegisters { s with flags := t.flags } t ∧
      (∀ q, t.reg q = if q = r then byte ((s.reg r).toNat + 1) else s.reg q) ∧
      t.flags = flagsOf (byte ((s.reg r).toNat + 1)) (decide ((s.reg r).toNat % 16 = 15)) s.flags.cy) ∧
  (∀ (i : Instr) (r : Reg), i.form = .dcr r → EncodedAs i [byte (0x05 + 8 * regNumber r)] ∧
    ∀ s, ∃ t, exec i s = .next t ∧ OnlyRegisters { s with flags := t.flags } t ∧
      (∀ q, t.reg q = if q = r then byte ((s.reg r).toNat + 255) else s.reg q) ∧
      t.flags = flagsOf (byte ((s.reg r).toNat + 255)) (decide ((s.reg r).toNat % 16 ≠ 0)) s.flags.cy)

/-- R147, R149: INR M and DCR M, with CY kept and only the byte at HL stored. -/
def Obligations.IncrementAndDecrementMemory : Prop :=
  (EncodedAs .inrM [0x34#8] ∧ ∀ s, ∃ t, exec .inrM s = .next t ∧ t = { s with mem := t.mem, flags := t.flags } ∧
    StoresByte s t (addressHL s) (byte ((s.mem.read (addressHL s)).toNat + 1)) ∧
    t.flags = flagsOf (byte ((s.mem.read (addressHL s)).toNat + 1))
      (decide ((s.mem.read (addressHL s)).toNat % 16 = 15)) s.flags.cy) ∧
  (EncodedAs .dcrM [0x35#8] ∧ ∀ s, ∃ t, exec .dcrM s = .next t ∧ t = { s with mem := t.mem, flags := t.flags } ∧
    StoresByte s t (addressHL s) (byte ((s.mem.read (addressHL s)).toNat + 255)) ∧
    t.flags = flagsOf (byte ((s.mem.read (addressHL s)).toNat + 255))
      (decide ((s.mem.read (addressHL s)).toNat % 16 ≠ 0)) s.flags.cy)

/-- R150, R151, R152: the 16-bit arithmetic; INX and DCX write no flag, DAD writes CY only. -/
def Obligations.PairArithmeticWrapsAndKeepsFlags : Prop :=
  (∀ (i : Instr) (p : Pair), i.form = .inx p → EncodedAs i [byte (0x03 + 16 * pairNumber p)] ∧
    ∀ s, ∃ t, exec i s = .next t ∧
      t = { s with b := t.b, c := t.c, d := t.d, e := t.e, h := t.h, l := t.l, sp := t.sp } ∧
      ∀ q, (t.pair q).toNat = if q = p then ((s.pair p).toNat + 1) % 65536 else (s.pair q).toNat) ∧
  (∀ (i : Instr) (p : Pair), i.form = .dcx p → EncodedAs i [byte (0x0B + 16 * pairNumber p)] ∧
    ∀ s, ∃ t, exec i s = .next t ∧
      t = { s with b := t.b, c := t.c, d := t.d, e := t.e, h := t.h, l := t.l, sp := t.sp } ∧
      ∀ q, (t.pair q).toNat = if q = p then ((s.pair p).toNat + 65535) % 65536 else (s.pair q).toNat) ∧
  (∀ (i : Instr) (p : Pair), i.form = .dad p → EncodedAs i [byte (0x09 + 16 * pairNumber p)] ∧
    ∀ s, ∃ t, exec i s = .next t ∧
      t = { s with h := t.h, l := t.l,
                   flags := { s.flags with cy := decide (65536 ≤ (s.pair .hl).toNat + (s.pair p).toNat) } } ∧
      (t.pair .hl).toNat = ((s.pair .hl).toNat + (s.pair p).toNat) % 65536)

/-- R153: DAA's correction and flags, and that after ADD or ADC of two valid packed-BCD bytes it leaves their decimal sum. -/
def Obligations.DecimalAdjustCorrectsTheSum : Prop :=
  EncodedAs .daa [0x27#8] ∧
  (∀ s, ∃ corr, (daaLowDue s → corr % 16 = 6) ∧ (¬ daaLowDue s → corr % 16 = 0) ∧
    (daaHighDue s → corr / 16 = 6) ∧ (¬ daaHighDue s → corr / 16 = 0) ∧
    ∃ t, exec .daa s = .next t ∧ t = { s with a := byte (s.a.toNat + corr), flags := t.flags } ∧
      (t.flags.cy = true ↔ daaHighDue s ∨ s.flags.cy = true) ∧
      t.flags = flagsOf (byte (s.a.toNat + corr)) (decide (16 ≤ s.a.toNat % 16 + corr % 16)) t.flags.cy) ∧
  (∀ (src : Source) (i : Instr) (s : State) (c : Bool),
    (i.form = src.form .add ∧ c = false ∨ i.form = src.form .adc ∧ c = s.flags.cy) →
    ValidBcd s.a → ValidBcd (src.value s) →
    ∃ u, execAll [i, .daa] s = .next u ∧ ValidBcd u.a ∧
      bcd u.a + 100 * u.flags.cy.toNat = bcd s.a + bcd (src.value s) + c.toNat)

/-- R154: a second DAA changes nothing exactly when the first left AC = 0, CY = 0 and both nibbles at most 9. -/
def Obligations.SecondDecimalAdjustIsIdleExactlyWhen : Prop :=
  ∀ s, ∃ t u, exec .daa s = .next t ∧ exec .daa t = .next u ∧
    (u = t ↔ t.flags.ac = false ∧ t.flags.cy = false ∧ ValidBcd t.a)

/-! ## Logic, compare, rotates, carry -/

/-- R130, R160, R162 to R170: ANA, ANI, XRA, XRI, ORA, ORI with every operand. -/
def Obligations.LogicalFormsGiveResultAndClearCarries : Prop :=
  ∀ (src : Source) (i : Instr),
    (i.form = src.form .ana → EncodedAs i (src.bytes .ana) ∧
      ∀ s, exec i s = .next (logical s (s.a &&& src.value s))) ∧
    (i.form = src.form .xra → EncodedAs i (src.bytes .xra) ∧
      ∀ s, exec i s = .next (logical s (s.a ^^^ src.value s))) ∧
    (i.form = src.form .ora → EncodedAs i (src.bytes .ora) ∧
      ∀ s, exec i s = .next (logical s (s.a ||| src.value s)))

/-- R161, R171 to R173: CMP and CPI keep A and set the flags of the subtraction, so that Z says equal and CY says less. -/
def Obligations.CompareSetsFlagsOnly : Prop :=
  ∀ (src : Source) (i : Instr), i.form = src.form .cmp → EncodedAs i (src.bytes .cmp) ∧
    ∀ s, ∃ t, exec i s = .next t ∧ t = { s with flags := differenceFlags s.a (src.value s) false } ∧
      (t.flags.z = true ↔ s.a = src.value s) ∧ (t.flags.cy = true ↔ s.a.toNat < (src.value s).toNat) ∧
      (t.flags.cy = false ∧ t.flags.z = false ↔ (src.value s).toNat < s.a.toNat)

/-- R174 to R177: the four rotates in numbers; every flag but CY kept. -/
def Obligations.RotatesMoveOneBit : Prop :=
  EncodedAs .rlc [0x07#8] ∧ EncodedAs .rrc [0x0F#8] ∧ EncodedAs .ral [0x17#8] ∧ EncodedAs .rar [0x1F#8] ∧
  ∀ s,
    exec .rlc s = .next { s with a := byte (s.a.toNat * 2 % 256 + s.a.toNat / 128),
                                 flags := { s.flags with cy := decide (128 ≤ s.a.toNat) } } ∧
    exec .rrc s = .next { s with a := byte (s.a.toNat / 2 + s.a.toNat % 2 * 128),
                                 flags := { s.flags with cy := decide (s.a.toNat % 2 = 1) } } ∧
    exec .ral s = .next { s with a := byte (s.a.toNat * 2 % 256 + s.flags.cy.toNat),
                                 flags := { s.flags with cy := decide (128 ≤ s.a.toNat) } } ∧
    exec .rar s = .next { s with a := byte (s.a.toNat / 2 + s.flags.cy.toNat * 128),
                                 flags := { s.flags with cy := decide (s.a.toNat % 2 = 1) } }

/-- What the rotates' rules say of them repeated: eight RLC (or RRC) restore A, nine RAL (or RAR) restore A and CY, RAR
undoes RAL and RAL undoes RAR. -/
def Obligations.RotatesCloseUp : Prop :=
  ∀ s,
    (∃ t, execAll (List.replicate 8 .rlc) s = .next t ∧ t.a = s.a) ∧
    (∃ t, execAll (List.replicate 8 .rrc) s = .next t ∧ t.a = s.a) ∧
    execAll (List.replicate 9 .ral) s = .next s ∧ execAll (List.replicate 9 .rar) s = .next s ∧
    execAll [.ral, .rar] s = .next s ∧ execAll [.rar, .ral] s = .next s

/-- R178 to R180: CMA, CMC, STC. -/
def Obligations.ComplementAndCarry : Prop :=
  EncodedAs .cma [0x2F#8] ∧ EncodedAs .cmc [0x3F#8] ∧ EncodedAs .stc [0x37#8] ∧
  ∀ s,
    exec .cma s = .next { s with a := byte (255 - s.a.toNat) } ∧
    exec .cmc s = .next { s with flags := { s.flags with cy := decide (s.flags.cy = false) } } ∧
    exec .stc s = .next { s with flags := { s.flags with cy := true } } ∧
    execAll [.cma, .cma] s = .next s

/-! ## Stack -/

/-- R190, R192, R193: PUSH of every pair and of PSW. -/
def Obligations.PushStoresHighThenLow : Prop :=
  ∀ (i : Instr) (p : StackPair), i.form = .push p → EncodedAs i [byte (0xC5 + 16 * stackPairNumber p)] ∧
    ∀ s, ∃ t, exec i s = .next t ∧ Pushes s t s (pushHigh s p) (pushLow s p)

/-- R191, R194, R195: POP of every pair and of PSW; memory unchanged. -/
def Obligations.PopLoadsLowThenHigh : Prop :=
  ∀ (i : Instr) (p : StackPair), i.form = .pop p → EncodedAs i [byte (0xC1 + 16 * stackPairNumber p)] ∧
    ∀ s, exec i s = .next (popped s (s.mem.read s.sp) (s.mem.read (s.sp + 1#16)) p)

/-- R196, R197: XTHL, which restores everything when done twice, and SPHL. -/
def Obligations.ExchangeTopAndLoadSp : Prop :=
  EncodedAs .xthl [0xE3#8] ∧ EncodedAs .sphl [0xF9#8] ∧
  (∀ s, ∃ t, exec .xthl s = .next t ∧
    t = { s with l := s.mem.read s.sp, h := s.mem.read (s.sp + 1#16), mem := t.mem } ∧ StoresWord s t s.sp s.l s.h) ∧
  (∀ s, ∃ t, execAll [.xthl, .xthl] s = .next t ∧ t = { s with mem := t.mem } ∧ ∀ x, t.mem.read x = s.mem.read x) ∧
  (∀ s, exec .sphl s = .next { s with sp := word s.h s.l })

/-- R198: PUSH then POP of the same pair restores it, SP and all else but the two bytes below SP, which stay overwritten, for
every SP; POP PSW then PUSH PSW rewrites the flags byte with its reserved bits forced to 0, 0, 1. -/
def Obligations.PushThenPopRestores : Prop :=
  (∀ (i j : Instr) (p : StackPair) (s : State), i.form = .push p → j.form = .pop p →
    ∃ t, execAll [i, j] s = .next t ∧ t = { s with mem := t.mem } ∧
      ∀ x, t.mem.read x =
        if x = s.sp - 1#16 then pushHigh s p else if x = s.sp - 2#16 then pushLow s p else s.mem.read x) ∧
  (∀ s, ∃ t, execAll [.popPsw, .pushPsw] s = .next t ∧ t.sp = s.sp ∧
    t.mem.read s.sp = ((s.mem.read s.sp &&& 0xD7#8) ||| 0x02#8) ∧
    ∀ x, x ≠ s.sp → t.mem.read x = s.mem.read x)

/-! ## Control flow -/

/-- R200 to R210: JMP and the eight conditional jumps; a jump not taken changes nothing. -/
def Obligations.JumpsGoWhereTheConditionSays : Prop :=
  (∀ (i : Instr) (w : Word), i.form = .jmp w → EncodedAs i (0xC3#8 :: lowHigh w) ∧
    ∀ s, exec i s = .next { s with pc := w }) ∧
  (∀ (i : Instr) (cond : Cond) (w : Word), i.form = .jcc cond w → EncodedAs i (byte (0xC2 + 8 * condNumber cond) :: lowHigh w) ∧
    ∀ s, (condTrue s.flags cond → exec i s = .next { s with pc := w }) ∧ (¬ condTrue s.flags cond → exec i s = .next s))

/-- R212 to R221: CALL and the eight conditional calls; a call not taken changes nothing. -/
def Obligations.CallsPushThenTransfer : Prop :=
  (∀ (i : Instr) (w : Word), i.form = .call w → EncodedAs i (0xCD#8 :: lowHigh w) ∧
    ∀ s, ∃ t, exec i s = .next t ∧ Pushes s t { s with pc := w } (pcHigh s) (pcLow s)) ∧
  (∀ (i : Instr) (cond : Cond) (w : Word), i.form = .ccc cond w → EncodedAs i (byte (0xC4 + 8 * condNumber cond) :: lowHigh w) ∧
    ∀ s, (condTrue s.flags cond → ∃ t, exec i s = .next t ∧ Pushes s t { s with pc := w } (pcHigh s) (pcLow s)) ∧
      (¬ condTrue s.flags cond → exec i s = .next s))

/-- R223 to R232: RET and the eight conditional returns; a return not taken changes nothing. -/
def Obligations.ReturnsPopThePc : Prop :=
  (EncodedAs .ret [0xC9#8] ∧ ∀ s, exec .ret s = .next (returned s)) ∧
  (∀ (i : Instr) (cond : Cond), i.form = .rcc cond → EncodedAs i [byte (0xC0 + 8 * condNumber cond)] ∧
    ∀ s, (condTrue s.flags cond → exec i s = .next (returned s)) ∧ (¬ condTrue s.flags cond → exec i s = .next s))

/-- R233, R234: RST n pushes PC and goes to 8·n with INTE kept; PCHL goes to HL. -/
def Obligations.RestartAndPchl : Prop :=
  (∀ (i : Instr) (n : BitVec 3), i.form = .rst n → EncodedAs i [byte (0xC7 + 8 * n.toNat)] ∧
    ∀ s, ∃ t, exec i s = .next t ∧ Pushes s t { s with pc := BitVec.ofNat 16 (8 * n.toNat) } (pcHigh s) (pcLow s)) ∧
  EncodedAs .pchl [0xE9#8] ∧ ∀ s, exec .pchl s = .next { s with pc := word s.h s.l }

/-- R211, seen from a step: a conditional jump or call not taken leaves PC three past the opcode, and a taken call pushes the
address three past the opcode; a conditional return not taken, one byte long, leaves PC one past. -/
def Obligations.OperandBytesAreAlwaysConsumed : Prop :=
  (∀ (s : State) (cond : Cond) (w : Word), s.run = .running →
    BytesAt s s.pc (byte (0xC2 + 8 * condNumber cond) :: lowHigh w) →
    (condTrue s.flags cond → step s = .next { s with pc := w }) ∧
    (¬ condTrue s.flags cond → step s = .next { s with pc := s.pc + 3#16 })) ∧
  (∀ (s : State) (cond : Cond) (w : Word), s.run = .running →
    BytesAt s s.pc (byte (0xC4 + 8 * condNumber cond) :: lowHigh w) →
    (condTrue s.flags cond → ∃ t, step s = .next t ∧ Pushes s t { s with pc := w }
      (byte ((s.pc + 3#16).toNat / 256)) (byte ((s.pc + 3#16).toNat % 256))) ∧
    (¬ condTrue s.flags cond → step s = .next { s with pc := s.pc + 3#16 })) ∧
  (∀ (s : State) (cond : Cond), s.run = .running → s.mem.read s.pc = byte (0xC0 + 8 * condNumber cond) →
    (condTrue s.flags cond → step s = .next (returned s)) ∧
    (¬ condTrue s.flags cond → step s = .next { s with pc := s.pc + 1#16 })) ∧
  (∀ (s : State) (w : Word), s.run = .running → BytesAt s s.pc (0xC3#8 :: lowHigh w) → step s = .next { s with pc := w }) ∧
  (∀ (s : State) (w : Word), s.run = .running → BytesAt s s.pc (0xCD#8 :: lowHigh w) →
    ∃ t, step s = .next t ∧ Pushes s t { s with pc := w }
      (byte ((s.pc + 3#16).toNat / 256)) (byte ((s.pc + 3#16).toNat % 256)))

/-- R222, two steps: a CALL to a RET that the push does not overwrite comes back to the instruction after the CALL with SP and
all else as before, for every SP, also across the wrap, but for the two bytes below SP, which stay written. -/
def Obligations.CallThenReturnRestores : Prop :=
  ∀ (s : State) (w : Word), s.run = .running → BytesAt s s.pc (0xCD#8 :: lowHigh w) →
    s.mem.read w = 0xC9#8 → w ≠ s.sp - 1#16 → w ≠ s.sp - 2#16 →
    ∃ t u, step s = .next t ∧ t.pc = w ∧ step t = .next u ∧ u = { s with pc := s.pc + 3#16, mem := u.mem } ∧
      ∀ x, u.mem.read x = if x = s.sp - 1#16 then byte ((s.pc + 3#16).toNat / 256)
        else if x = s.sp - 2#16 then byte ((s.pc + 3#16).toNat % 256) else s.mem.read x

/-- R62: a store is seen by the very next fetch. STA into the byte after itself makes that byte the next opcode: what it
decodes to is what the next step runs. -/
def Obligations.StoreIsSeenByTheNextFetch : Prop :=
  ∀ (s : State) (i : Instr), s.run = .running → BytesAt s s.pc (0x32#8 :: lowHigh (s.pc + 3#16)) → encode i = [s.a] →
    ∃ t, step s = .next t ∧ t = { s with pc := s.pc + 3#16, mem := t.mem } ∧
      step t = exec i { t with pc := s.pc + 4#16 }

/-! ## Ports -/

/-- R240, R244 to R246, R249: IN of every port; a port with no function gives the free byte (log 4). -/
def Obligations.InGivesThePortsAnswer : Prop :=
  ∀ (i : Instr) (port : Byte), i.form = .inp port → EncodedAs i [0xDB#8, port] ∧
    ∀ s, exec i s = .next { s with a := portAnswer s port }

/-- R241, R247, R248, R250: OUT of every port. -/
def Obligations.OutChangesTheShifterOnly : Prop :=
  ∀ (i : Instr) (port : Byte), i.form = .out port → EncodedAs i [0xD3#8, port] ∧
    ∀ s, exec i s = .next (afterOut s port)

/-- R246's other wording: offset k gives the low 8 − k bits of the newest byte above the top k bits of the one before it. And
the complete use of R253: whatever the shifter held before (R252), one offset and two data bytes decide the answer. -/
def Obligations.ShifterGivesTheWindowItWasFed : Prop :=
  (∀ (s : State) (hi lo : Byte), s.shiftReg.toNat = hi.toNat * 256 + lo.toNat →
    ∃ t, exec (.inPort 3#8) s = .next t ∧
      t.a.toNat = hi.toNat % 2 ^ (8 - s.shiftOffset.toNat) * 2 ^ s.shiftOffset.toNat +
        lo.toNat / 2 ^ (8 - s.shiftOffset.toNat)) ∧
  (∀ (s : State) (k v w : Byte), ∃ t,
    execAll [.mviA k, .outPort 2#8, .mviA v, .outPort 4#8, .mviA w, .outPort 4#8, .inPort 3#8] s = .next t ∧
    t.shiftOffset.toNat = k.toNat % 8 ∧ t.shiftReg.toNat = w.toNat * 256 + v.toNat ∧
    t.a.toNat = (w.toNat * 256 + v.toNat) / 2 ^ (8 - k.toNat % 8) % 256 ∧
    t = { s with a := t.a, shiftReg := t.shiftReg, shiftOffset := t.shiftOffset })

/-! ## Machine control -/

/-- R260, R264: NOP and the twelve undocumented bytes change nothing but PC, by one. -/
def Obligations.NoOperationsChangeNothing : Prop :=
  EncodedAs .nop [0x00#8] ∧ (∀ s, exec .nop s = .next s) ∧
  (∀ (i : Instr) (u : Undocumented), i.form = .undocumented u → ∀ s, exec i s = .next s) ∧
  (∀ (s : State), s.run = .running → (s.mem.read s.pc = 0x00#8 ∨ s.mem.read s.pc ∈ undocumentedBytes) →
    step s = .next { s with pc := s.pc + 1#16 })

/-- R261, R262, R263: HLT, EI, DI; EI and DI act at once, on the request at the very next boundary; PC is one past the opcode
after the step of HLT. -/
def Obligations.HaltAndInterruptEnable : Prop :=
  EncodedAs .hlt [0x76#8] ∧ EncodedAs .ei [0xFB#8] ∧ EncodedAs .di [0xF3#8] ∧
  (∀ s, exec .hlt s = .next { s with run := .halted } ∧ exec .ei s = .next { s with inte := true } ∧
    exec .di s = .next { s with inte := false }) ∧
  (∀ (s : State) (n : BitVec 3), s.run = .running →
    (∃ t, exec .ei s = .next t ∧ (t.interruptRequest n).pc = BitVec.ofNat 16 (8 * n.toNat)) ∧
    (∃ t, exec .di s = .next t ∧ t.interruptRequest n = t)) ∧
  (∀ (s : State), s.run = .running → s.mem.read s.pc = 0x76#8 →
    step s = .next { s with run := .halted, pc := s.pc + 1#16 })

/-! ## Interrupts and the run state -/

/-- R277, R279: an accepted request saves PC on the stack, clears INTE and goes to 8·n, and changes nothing else; any other
request has no effect. -/
def Obligations.InterruptRequestAcceptedOrLost : Prop :=
  ∀ (s : State) (n : BitVec 3),
    (s.run = .running → s.inte = true →
      Pushes s (s.interruptRequest n) { s with pc := BitVec.ofNat 16 (8 * n.toNat), inte := false } (pcHigh s) (pcLow s)) ∧
    (s.run ≠ .running ∨ s.inte = false → s.interruptRequest n = s)

/-- What R277 says acceptance is: RST n without its fetch, and INTE cleared; and a second request at the same boundary is
refused (R278). -/
def Obligations.AcceptanceIsRestartWithInterruptsOff : Prop :=
  ∀ (s : State) (n m : BitVec 3) (i : Instr), i.form = .rst n → s.run = .running → s.inte = true →
    exec i s = .next { s.interruptRequest n with inte := true } ∧
    (s.interruptRequest n).inte = false ∧ (s.interruptRequest n).interruptRequest m = s.interruptRequest n

/-- The return of R280: RET straight after acceptance restores PC and SP and leaves interrupts off; EI then RET leaves them
on. -/
def Obligations.HandlerReturnRestoresPc : Prop :=
  ∀ (s : State) (n : BitVec 3), s.run = .running → s.inte = true →
    ∃ t u, exec .ret (s.interruptRequest n) = .next t ∧ t = { s with inte := false, mem := t.mem } ∧
      execAll [.ei, .ret] (s.interruptRequest n) = .next u ∧ u = { s with mem := u.mem } ∧ t.mem = u.mem ∧
      ∀ x, x ≠ s.sp - 1#16 → x ≠ s.sp - 2#16 → u.mem.read x = s.mem.read x

/-- R29, R273, R311: a stop request stops a running core and touches nothing else; in the three terminal states a step, a stop
request and an interrupt request change nothing, and Reset leaves them. What `Step` answers there is the model's reading of
R309 (log 3). -/
def Obligations.StopAndTerminalStates : Prop :=
  ∀ (s : State),
    (s.run = .running → s.requestStop = { s with run := .stopped }) ∧
    (s.run ≠ .running →
      step s = .next s ∧ s.requestStop = s ∧ (∀ n, s.interruptRequest n = s) ∧
      (∀ k v, (s.setPort k v).run = s.run) ∧ s.applyReset.run = .running)

/-- R9, R52, R272: every step of a running core completes, with no fault and no refusal, and none raises the decode error; a
running core leaves the running state exactly for the opcode of HLT. That a step is also answered in the halted, the stopped and
the decode-error state, with the state unchanged, is the model's reading and no rule (log 3: R271 says that a step exists only
when RUN = Running); the clauses about those states rest on it. -/
def Obligations.EveryStepCompletes : Prop :=
  ∀ (s : State), ∃ t, step s = .next t ∧ (t.run.isDecodeError = true → t = s) ∧
    (s.run = .running → (s.mem.read s.pc = 0x76#8 → t.run = .halted) ∧ (s.mem.read s.pc ≠ 0x76#8 → t.run = .running))

/-! ## Invariants and whole-machine rules -/

/-- The constructed core meets the invariant. -/
def Obligations.ConstructedCoreIsSound : Prop := State.reset.Inv

/-- A step keeps the invariant: memory in its canonical form (the model's choice of form, log 11) within the 65536 addresses, and
no decode error. In a state that is not running the step is the model's (log 3). -/
def Obligations.StepKeepsTheInvariant : Prop :=
  ∀ (s t : State), s.Inv → step s = .next t → t.Inv

/-- R270 for the whole system, host events included: whatever the host presents at a boundary, the boundary and the step after it
keep the invariant from every state that meets it; and so no state reached from the constructed core is the decode error, and
memory keeps its form. How boundary and step are put together, what one boundary can hold, the form of memory, and the step of a
core that is not running are the model's choices (log 6, log 8, log 11, log 3). -/
def Obligations.DecodeErrorIsUnreachable : Prop :=
  (∀ (x : Boundary) (s t : State), s.Inv → systemStep x s = .next t → t.Inv) ∧
  (∀ (s : State), Reachable s → s.Inv)

/-- R26: an instruction that is not in the table's rows for a flag leaves that flag as it was. -/
def Obligations.FlagsChangeOnlyWhereTheTableSays : Prop :=
  ∀ (i : Instr) (s t : State), exec i s = .next t →
    (writesResultFlags i.form = false →
      t.flags.s = s.flags.s ∧ t.flags.z = s.flags.z ∧ t.flags.ac = s.flags.ac ∧ t.flags.p = s.flags.p) ∧
    (writesCarry i.form = false → t.flags.cy = s.flags.cy)

/-- `exec` completes for every instruction in every state; and among the instructions, the writers of INTE (R28), RUN (R29),
the latches (R31) and the shifter (R32). -/
def Obligations.ControlStateHasItsWritersOnly : Prop :=
  ∀ (i : Instr) (s : State), ∃ t, exec i s = .next t ∧
    t.port1 = s.port1 ∧ t.port2 = s.port2 ∧
    (i ≠ .ei → i ≠ .di → t.inte = s.inte) ∧ (i ≠ .hlt → t.run = s.run) ∧
    (i ≠ .outPort 4#8 → t.shiftReg = s.shiftReg) ∧ (i ≠ .outPort 2#8 → t.shiftOffset = s.shiftOffset)

/-- The writers of memory (R56), of SP (R23) and of PC after the fetch (R24) among the instructions. -/
def Obligations.MemorySpAndPcHaveTheirWritersOnly : Prop :=
  ∀ (i : Instr) (s t : State), exec i s = .next t →
    (writesMemory i.form = false → t.mem = s.mem) ∧ (writesSp i.form = false → t.sp = s.sp) ∧
    (writesPc i.form = false → t.pc = s.pc)

/-- R251: a latch write replaces that latch whole and changes nothing else, and the core observes the latches only through IN:
on any other opcode, other latch values change nothing in the step but themselves (in a state that is not running, by log 3). -/
def Obligations.LatchesAreWrittenWholeAndSeenThroughIn : Prop :=
  (∀ (s : State) (v : Byte), s.setPort .one v = { s with port1 := v } ∧ s.setPort .two v = { s with port2 := v }) ∧
  (∀ (s : State) (p q : Byte), s.mem.read s.pc ≠ 0xDB#8 →
    ∃ t, step s = .next t ∧
      step { s with port1 := p, port2 := q } = .next { t with port1 := p, port2 := q })

/-- R28: no instruction reads INTE, so another value of it changes nothing in any instruction's effect but itself. -/
def Obligations.InterruptEnableIsNotRead : Prop :=
  ∀ (i : Instr) (s : State) (b : Bool), ∃ t, exec i s = .next t ∧
    ∃ b', exec i { s with inte := b } = .next { t with inte := b' } ∧ (i ≠ .ei → i ≠ .di → b' = b)

/-! ## Reset and the host interface -/

/-- R37, R38: what Reset leaves, field by field, from any state, and what construction leaves. -/
def Obligations.ResetAndConstructionValues : Prop :=
  (∀ (s : State),
    s.applyReset.a = 0#8 ∧ s.applyReset.b = 0#8 ∧ s.applyReset.c = 0#8 ∧ s.applyReset.d = 0#8 ∧
    s.applyReset.e = 0#8 ∧ s.applyReset.h = 0#8 ∧ s.applyReset.l = 0#8 ∧
    s.applyReset.sp = 0#16 ∧ s.applyReset.pc = 0#16 ∧ flagsByte s.applyReset.flags = 0x02#8 ∧
    s.applyReset.inte = false ∧ s.applyReset.run = .running ∧ (∀ x, s.applyReset.mem.read x = 0#8) ∧
    s.applyReset.port1 = s.port1 ∧ s.applyReset.port2 = s.port2 ∧
    s.applyReset.shiftReg = s.shiftReg ∧ s.applyReset.shiftOffset = s.shiftOffset) ∧
  State.reset = { State.reset.applyReset with port1 := 0#8, port2 := 0#8, shiftReg := 0#16, shiftOffset := 0#3 }

/-- LoadImage (R308) puts the bytes at base on and changes no other byte and nothing else; an image that does not fit is the
host's failure (R302; the fault is the model's, log 7). -/
def Obligations.LoadImagePlacesTheBytes : Prop :=
  ∀ (s : State) (base : Nat) (bytes : List Byte),
    (base + bytes.length ≤ 65536 →
      ∃ t, s.loadImage base bytes = .next t ∧ t = { s with mem := t.mem } ∧
        ∀ x : Word, t.mem.read x =
          if base ≤ x.toNat then (bytes[x.toNat - base]?).getD (s.mem.read x) else s.mem.read x) ∧
    (65536 < base + bytes.length → s.loadImage base bytes = .fault (.romLoadFailure base bytes.length))

/-- R310: the framebuffer view is the 7168 bytes from 0x2400 on. -/
def Obligations.FramebufferViewIsTheRange : Prop :=
  ∀ (s : State), s.framebufferView.length = 0x1C00 ∧
    ∀ k, k < 0x1C00 → s.framebufferView[k]? = some (s.mem.read (BitVec.ofNat 16 (0x2400 + k)))

/-- R309: a run is steps in a row: a budget of m + n is a run of m and then a run of n, a budget of 1 on a running core is one
step, and a core that is not running stays. And a budget in clock cycles (R314's informative table) is used up before the bound
on its number of steps: a greater bound changes nothing. -/
def Obligations.RunBudgetIsStepsInARow : Prop :=
  (∀ (m n : Nat) (s : State), runInstructions (m + n) s = andThen (runInstructions m s) (runInstructions n)) ∧
  (∀ (s : State), s.run = .running → runInstructions 1 s = step s) ∧
  (∀ (n : Nat) (s : State), s.run ≠ .running → runInstructions n s = .next s) ∧
  (∀ (fuel budget : Nat) (s : State), budget ≤ fuel → runCyclesFrom fuel budget s = runCycles budget s)

/-- The order of R278 at one boundary without a Reset: a stop request wins over every interrupt request, and a latch write is
there for the first instruction of a handler entered at the same boundary. -/
def Obligations.BoundaryOrder : Prop :=
  (∀ (s : State) (x : Boundary), x.reset = none → x.stop = true → s.run = .running →
    ∃ t, s.atBoundary x = .next t ∧ t = { s with run := .stopped, port1 := t.port1, port2 := t.port2 }) ∧
  (∀ (s : State) (n : BitVec 3) (v : Byte), s.run = .running → s.inte = true →
    ∃ t, s.atBoundary { reset := none, stop := false, latches := [(.one, v)], requests := [n] } = .next t ∧
      t.port1 = v ∧ t.pc = BitVec.ofNat 16 (8 * n.toNat) ∧ t.inte = false)
end

