-- ==== Sys2Proof/Laws/Memory.lean ====
section
/-! SUPPORT. Memory: what a read after a write gives, that every operation keeps the canonical form, and that the canonical
form makes memories with the same bytes the same list. -/

namespace Sys2Proof.Machine.Memory

/-! ## Reading after writing -/

theorem byteAt_erase (m : Memory) (k j : Nat) : (m.erase k).byteAt j = if j = k then unlisted else m.byteAt j := by
  induction m with
  | nil => simp [erase, byteAt]
  | cons cell m ih =>
    obtain ⟨i, v⟩ := cell
    by_cases hik : i = k
    · have : erase ((i, v) :: m) k = erase m k := by simp [erase, hik]
      rw [this, ih]
      by_cases hj : j = k
      · simp [hj]
      · have hij : ¬ i = j := fun h => hj (h ▸ hik)
        simp [hj, byteAt, hij]
    · have : erase ((i, v) :: m) k = (i, v) :: erase m k := by simp [erase, hik]
      rw [this]
      by_cases hij : i = j
      · have hjk : ¬ j = k := fun h => hik (hij.trans h)
        simp [byteAt, hij, hjk]
      · simp [byteAt, hij, ih]

theorem byteAt_insert (m : Memory) (k j : Nat) (v : Byte) (h : m.byteAt k = unlisted)
    (hk : ∀ cell ∈ m, cell.1 ≠ k) : (m.insert k v).byteAt j = if j = k then v else m.byteAt j := by
  induction m with
  | nil =>
    by_cases hj : j = k
    · simp [insert, byteAt, hj]
    · have : ¬ k = j := fun h => hj h.symm
      simp [insert, byteAt, hj, this]
  | cons cell m ih =>
    obtain ⟨i, u⟩ := cell
    have hik : i ≠ k := hk (i, u) (by simp)
    have hm : ∀ cell ∈ m, cell.1 ≠ k := fun c hc => hk c (by simp [hc])
    have hb : byteAt m k = unlisted := by simpa [byteAt, hik] using h
    rw [insert]
    by_cases hlt : k < i
    · by_cases hj : j = k
      · simp [hlt, byteAt, hj]
      · have : ¬ k = j := fun h => hj h.symm
        simp [hlt, byteAt, hj, this]
    · rw [if_neg hlt]
      by_cases hij : i = j
      · have hjk : ¬ j = k := fun h => hik (hij.trans h)
        simp [byteAt, hij, hjk]
      · simp only [byteAt, if_neg hij, ih hb hm]

/-- A write changes the byte at its address and no other. -/
theorem read_write (m : Memory) (x y : Word) (v : Byte) :
    (m.write x v).read y = if y = x then v else m.read y := by
  have hxy : y.toNat = x.toNat ↔ y = x := BitVec.toNat_inj
  by_cases hv : v = unlisted
  · simp [write, read, hv, byteAt_erase, hxy]
  · have hb : (m.erase x.toNat).byteAt x.toNat = unlisted := by simp [byteAt_erase]
    have hk : ∀ cell ∈ m.erase x.toNat, cell.1 ≠ x.toNat := by
      intro cell hc
      simpa using (List.mem_filter.mp hc).2
    simp only [write, read, if_neg hv, byteAt_insert _ _ _ _ hb hk, byteAt_erase, hxy]
    split <;> simp_all

@[simp] theorem read_write_same (m : Memory) (x : Word) (v : Byte) : (m.write x v).read x = v := by
  simp [read_write]

@[simp] theorem read_nil (x : Word) : read [] x = unlisted := rfl

/-- The bytes `writeBytes` leaves, by their distance from its first address. -/
theorem read_writeBytes (m : Memory) (x y : Word) (bytes : List Byte) (h : bytes.length ≤ 65536) :
    (m.writeBytes x bytes).read y = bytes[(y - x).toNat]?.getD (m.read y) := by
  induction bytes generalizing m x with
  | nil => simp [writeBytes]
  | cons v vs ih =>
    have hl : vs.length ≤ 65535 := by simp at h; omega
    rw [writeBytes, ih _ _ (by omega), read_write]
    by_cases hyx : y = x
    · have h0 : (y - x).toNat = 0 := by rw [hyx]; simp
      have h1 : (y - (x + 1#16)).toNat = 65535 := by bv_omega
      have h2 : vs[65535]? = none := List.getElem?_eq_none hl
      rw [h0, h1, h2, if_pos hyx]
      rfl
    · have hd : (y - x).toNat = (y - (x + 1#16)).toNat + 1 := by bv_omega
      rw [hd, if_neg hyx, List.getElem?_cons_succ]

/-! ## The canonical form -/

theorem wfFrom_cons (low j : Nat) (v : Byte) (m : Memory) :
    wfFrom low ((j, v) :: m) = true ↔ low ≤ j ∧ j < 65536 ∧ v ≠ unlisted ∧ wfFrom (j + 1) m = true := by
  simp only [wfFrom, Bool.and_eq_true, decide_eq_true_eq, bne_iff_ne, and_assoc]
  exact Iff.rfl

theorem wfFrom_mono {low low' : Nat} (h : low' ≤ low) : {m : Memory} → wfFrom low m = true → wfFrom low' m = true
  | [], _ => rfl
  | (j, v) :: m, hm => by
    rw [wfFrom_cons] at hm ⊢
    exact ⟨h.trans hm.1, hm.2⟩

theorem wfFrom_erase (k : Nat) : {low : Nat} → {m : Memory} → wfFrom low m = true → wfFrom low (m.erase k) = true
  | _, [], _ => rfl
  | low, (j, v) :: m, hm => by
    rw [wfFrom_cons] at hm
    have ih := wfFrom_erase k hm.2.2.2
    by_cases hjk : j = k
    · have : erase ((j, v) :: m) k = erase m k := by simp [erase, hjk]
      rw [this]
      exact wfFrom_mono (by omega) ih
    · have : erase ((j, v) :: m) k = (j, v) :: erase m k := by simp [erase, hjk]
      rw [this, wfFrom_cons]
      exact ⟨hm.1, hm.2.1, hm.2.2.1, ih⟩

theorem wfFrom_insert {k : Nat} {v : Byte} (hk : k < 65536) (hv : v ≠ unlisted) :
    {low : Nat} → {m : Memory} → low ≤ k → (∀ cell ∈ m, cell.1 ≠ k) → wfFrom low m = true →
      wfFrom low (m.insert k v) = true
  | low, [], hlow, _, _ => by
    rw [insert, wfFrom_cons]
    exact ⟨hlow, hk, hv, rfl⟩
  | low, (j, u) :: m, hlow, hne, hm => by
    rw [wfFrom_cons] at hm
    have hjk : j ≠ k := hne (j, u) (by simp)
    rw [insert]
    split
    · rw [wfFrom_cons, wfFrom_cons]
      exact ⟨hlow, hk, hv, by omega, hm.2⟩
    · rw [wfFrom_cons]
      exact ⟨hm.1, hm.2.1, hm.2.2.1,
        wfFrom_insert hk hv (by omega) (fun c hc => hne c (by simp [hc])) hm.2.2.2⟩

/-- A write keeps the canonical form. -/
theorem wf_write {m : Memory} (h : m.wf = true) (x : Word) (v : Byte) : (m.write x v).wf = true := by
  rw [write]
  split
  · exact wfFrom_erase _ h
  · next hv =>
    refine wfFrom_insert x.isLt hv (Nat.zero_le _) ?_ (wfFrom_erase _ h)
    intro cell hc
    simpa using (List.mem_filter.mp hc).2

theorem wf_write16 {m : Memory} (h : m.wf = true) (x v : Word) : (m.write16 x v).wf = true :=
  wf_write (wf_write h _ _) _ _

theorem wf_writeBytes : {m : Memory} → m.wf = true → (x : Word) → (bytes : List Byte) → (m.writeBytes x bytes).wf = true
  | _, h, _, [] => h
  | _, h, x, v :: vs => wf_writeBytes (wf_write h x v) (x + 1#16) vs

theorem byteAt_below : {low : Nat} → {m : Memory} → wfFrom low m = true → {k : Nat} → k < low → m.byteAt k = unlisted
  | _, [], _, _, _ => rfl
  | low, (j, v) :: m, hm, k, hk => by
    rw [wfFrom_cons] at hm
    have : ¬ j = k := by omega
    simpa [byteAt, this] using byteAt_below hm.2.2.2 (by omega)

theorem eq_of_byteAt : {low low' : Nat} → {m m' : Memory} → wfFrom low m = true → wfFrom low' m' = true →
    (∀ k, k < 65536 → m.byteAt k = m'.byteAt k) → m = m'
  | _, _, [], [], _, _, _ => rfl
  | _, _, [], (j, v) :: m', _, hm', h => by
    rw [wfFrom_cons] at hm'
    exact absurd (by simpa [byteAt] using h j hm'.2.1) (Ne.symm hm'.2.2.1)
  | _, _, (j, v) :: m, [], hm, _, h => by
    rw [wfFrom_cons] at hm
    exact absurd (by simpa [byteAt] using h j hm.2.1) hm.2.2.1
  | _, _, (j, v) :: m, (j', v') :: m', hm, hm', h => by
    rw [wfFrom_cons] at hm hm'
    have hjj : j = j' := by
      rcases Nat.lt_trichotomy j j' with hlt | heq | hlt
      · have h1 := h j hm.2.1
        have h2 : ¬ j' = j := by omega
        rw [byteAt, if_pos rfl, byteAt, if_neg h2, byteAt_below hm'.2.2.2 (by omega)] at h1
        exact absurd h1 hm.2.2.1
      · exact heq
      · have h1 := h j' hm'.2.1
        have h2 : ¬ j = j' := by omega
        rw [byteAt, if_neg h2, byteAt_below hm.2.2.2 (by omega), byteAt, if_pos rfl] at h1
        exact absurd h1.symm hm'.2.2.1
    subst hjj
    have hv : v = v' := by simpa [byteAt] using h j hm.2.1
    have htail : m = m' := by
      refine eq_of_byteAt hm.2.2.2 hm'.2.2.2 fun k hk => ?_
      by_cases hjk : j = k
      · subst hjk
        rw [byteAt_below hm.2.2.2 (by omega), byteAt_below hm'.2.2.2 (by omega)]
      · simpa [byteAt, hjk] using h k hk
    rw [hv, htail]

end Sys2Proof.Machine.Memory
end

