-- ==== Sys2Proof/Laws/State.lean ====
section
/-! SUPPORT. What each update of the state leaves in each field: one lemma per field and update, so that no proof unfolds an
update again; and the halves of a word. -/

namespace Sys2Proof

/-! ## Words and their halves -/

theorem toNat_join (hi lo : Byte) : (join hi lo).toNat = hi.toNat * 256 + lo.toNat := by
  rw [join, BitVec.toNat_append, ← Nat.shiftLeft_add_eq_or_of_lt lo.isLt, Nat.shiftLeft_eq]

theorem toNat_hi8 (w : Word) : (hi8 w).toNat = w.toNat / 256 := by
  have := w.isLt
  simp only [hi8, BitVec.extractLsb'_toNat, Nat.shiftRight_eq_div_pow]
  omega

theorem toNat_lo8 (w : Word) : (lo8 w).toNat = w.toNat % 256 := by
  simp [lo8, BitVec.extractLsb'_toNat]

@[simp] theorem hi8_join (hi lo : Byte) : hi8 (join hi lo) = hi := by
  apply BitVec.eq_of_toNat_eq
  have := lo.isLt
  rw [toNat_hi8, toNat_join]
  omega

@[simp] theorem lo8_join (hi lo : Byte) : lo8 (join hi lo) = lo := by
  apply BitVec.eq_of_toNat_eq
  have := lo.isLt
  rw [toNat_lo8, toNat_join]
  omega

@[simp] theorem join_hi8_lo8 (w : Word) : join (hi8 w) (lo8 w) = w := by
  apply BitVec.eq_of_toNat_eq
  rw [toNat_join, toNat_hi8, toNat_lo8]
  omega

namespace Machine

/-! ## `setReg` -/

@[simp] theorem State.setReg_sp (s : State) (r : Reg) (v : Byte) : (s.setReg r v).sp = s.sp := by cases r <;> rfl
@[simp] theorem State.setReg_pc (s : State) (r : Reg) (v : Byte) : (s.setReg r v).pc = s.pc := by cases r <;> rfl
@[simp] theorem State.setReg_flags (s : State) (r : Reg) (v : Byte) : (s.setReg r v).flags = s.flags := by cases r <;> rfl
@[simp] theorem State.setReg_inte (s : State) (r : Reg) (v : Byte) : (s.setReg r v).inte = s.inte := by cases r <;> rfl
@[simp] theorem State.setReg_run (s : State) (r : Reg) (v : Byte) : (s.setReg r v).run = s.run := by cases r <;> rfl
@[simp] theorem State.setReg_mem (s : State) (r : Reg) (v : Byte) : (s.setReg r v).mem = s.mem := by cases r <;> rfl
@[simp] theorem State.setReg_port1 (s : State) (r : Reg) (v : Byte) : (s.setReg r v).port1 = s.port1 := by cases r <;> rfl
@[simp] theorem State.setReg_port2 (s : State) (r : Reg) (v : Byte) : (s.setReg r v).port2 = s.port2 := by cases r <;> rfl
@[simp] theorem State.setReg_shiftReg (s : State) (r : Reg) (v : Byte) : (s.setReg r v).shiftReg = s.shiftReg := by cases r <;> rfl
@[simp] theorem State.setReg_shiftOffset (s : State) (r : Reg) (v : Byte) : (s.setReg r v).shiftOffset = s.shiftOffset := by cases r <;> rfl
@[simp] theorem State.setReg_reg (s : State) (r q : Reg) (v : Byte) : (s.setReg r v).reg q = if q = r then v else s.reg q := by
  cases r <;> cases q <;> rfl

/-! ## `setPair` -/

@[simp] theorem State.setPair_pc (s : State) (p : Pair) (v : Word) : (s.setPair p v).pc = s.pc := by cases p <;> rfl
@[simp] theorem State.setPair_flags (s : State) (p : Pair) (v : Word) : (s.setPair p v).flags = s.flags := by cases p <;> rfl
@[simp] theorem State.setPair_inte (s : State) (p : Pair) (v : Word) : (s.setPair p v).inte = s.inte := by cases p <;> rfl
@[simp] theorem State.setPair_run (s : State) (p : Pair) (v : Word) : (s.setPair p v).run = s.run := by cases p <;> rfl
@[simp] theorem State.setPair_mem (s : State) (p : Pair) (v : Word) : (s.setPair p v).mem = s.mem := by cases p <;> rfl
@[simp] theorem State.setPair_port1 (s : State) (p : Pair) (v : Word) : (s.setPair p v).port1 = s.port1 := by cases p <;> rfl
@[simp] theorem State.setPair_port2 (s : State) (p : Pair) (v : Word) : (s.setPair p v).port2 = s.port2 := by cases p <;> rfl
@[simp] theorem State.setPair_shiftReg (s : State) (p : Pair) (v : Word) : (s.setPair p v).shiftReg = s.shiftReg := by cases p <;> rfl
@[simp] theorem State.setPair_shiftOffset (s : State) (p : Pair) (v : Word) : (s.setPair p v).shiftOffset = s.shiftOffset := by cases p <;> rfl
@[simp] theorem State.setPair_a (s : State) (p : Pair) (v : Word) : (s.setPair p v).a = s.a := by cases p <;> rfl
@[simp] theorem State.setPair_sp (s : State) (p : Pair) (v : Word) : (s.setPair p v).sp = if p = .sp then v else s.sp := by cases p <;> rfl
@[simp] theorem State.setPair_pair (s : State) (p q : Pair) (v : Word) : (s.setPair p v).pair q = if q = p then v else s.pair q := by
  cases p <;> cases q <;> simp [State.setPair, State.pair]

/-! ## `store` -/

@[simp] theorem State.store_b (s : State) (x : Word) (v : Byte) : (s.store x v).b = s.b := rfl
@[simp] theorem State.store_c (s : State) (x : Word) (v : Byte) : (s.store x v).c = s.c := rfl
@[simp] theorem State.store_d (s : State) (x : Word) (v : Byte) : (s.store x v).d = s.d := rfl
@[simp] theorem State.store_e (s : State) (x : Word) (v : Byte) : (s.store x v).e = s.e := rfl
@[simp] theorem State.store_h (s : State) (x : Word) (v : Byte) : (s.store x v).h = s.h := rfl
@[simp] theorem State.store_l (s : State) (x : Word) (v : Byte) : (s.store x v).l = s.l := rfl
@[simp] theorem State.store_a (s : State) (x : Word) (v : Byte) : (s.store x v).a = s.a := rfl
@[simp] theorem State.store_sp (s : State) (x : Word) (v : Byte) : (s.store x v).sp = s.sp := rfl
@[simp] theorem State.store_pc (s : State) (x : Word) (v : Byte) : (s.store x v).pc = s.pc := rfl
@[simp] theorem State.store_flags (s : State) (x : Word) (v : Byte) : (s.store x v).flags = s.flags := rfl
@[simp] theorem State.store_inte (s : State) (x : Word) (v : Byte) : (s.store x v).inte = s.inte := rfl
@[simp] theorem State.store_run (s : State) (x : Word) (v : Byte) : (s.store x v).run = s.run := rfl
@[simp] theorem State.store_port1 (s : State) (x : Word) (v : Byte) : (s.store x v).port1 = s.port1 := rfl
@[simp] theorem State.store_port2 (s : State) (x : Word) (v : Byte) : (s.store x v).port2 = s.port2 := rfl
@[simp] theorem State.store_shiftReg (s : State) (x : Word) (v : Byte) : (s.store x v).shiftReg = s.shiftReg := rfl
@[simp] theorem State.store_shiftOffset (s : State) (x : Word) (v : Byte) : (s.store x v).shiftOffset = s.shiftOffset := rfl
@[simp] theorem State.store_mem (s : State) (x : Word) (v : Byte) : (s.store x v).mem = s.mem.write x v := rfl

/-! ## `push16` -/

@[simp] theorem State.push16_b (s : State) (v : Word) : (s.push16 v).b = s.b := rfl
@[simp] theorem State.push16_c (s : State) (v : Word) : (s.push16 v).c = s.c := rfl
@[simp] theorem State.push16_d (s : State) (v : Word) : (s.push16 v).d = s.d := rfl
@[simp] theorem State.push16_e (s : State) (v : Word) : (s.push16 v).e = s.e := rfl
@[simp] theorem State.push16_h (s : State) (v : Word) : (s.push16 v).h = s.h := rfl
@[simp] theorem State.push16_l (s : State) (v : Word) : (s.push16 v).l = s.l := rfl
@[simp] theorem State.push16_a (s : State) (v : Word) : (s.push16 v).a = s.a := rfl
@[simp] theorem State.push16_pc (s : State) (v : Word) : (s.push16 v).pc = s.pc := rfl
@[simp] theorem State.push16_flags (s : State) (v : Word) : (s.push16 v).flags = s.flags := rfl
@[simp] theorem State.push16_inte (s : State) (v : Word) : (s.push16 v).inte = s.inte := rfl
@[simp] theorem State.push16_run (s : State) (v : Word) : (s.push16 v).run = s.run := rfl
@[simp] theorem State.push16_port1 (s : State) (v : Word) : (s.push16 v).port1 = s.port1 := rfl
@[simp] theorem State.push16_port2 (s : State) (v : Word) : (s.push16 v).port2 = s.port2 := rfl
@[simp] theorem State.push16_shiftReg (s : State) (v : Word) : (s.push16 v).shiftReg = s.shiftReg := rfl
@[simp] theorem State.push16_shiftOffset (s : State) (v : Word) : (s.push16 v).shiftOffset = s.shiftOffset := rfl
@[simp] theorem State.push16_sp (s : State) (v : Word) : (s.push16 v).sp = s.sp - 2#16 := rfl

/-! ## `dropWord` -/

@[simp] theorem State.dropWord_b (s : State) : (s.dropWord).b = s.b := rfl
@[simp] theorem State.dropWord_c (s : State) : (s.dropWord).c = s.c := rfl
@[simp] theorem State.dropWord_d (s : State) : (s.dropWord).d = s.d := rfl
@[simp] theorem State.dropWord_e (s : State) : (s.dropWord).e = s.e := rfl
@[simp] theorem State.dropWord_h (s : State) : (s.dropWord).h = s.h := rfl
@[simp] theorem State.dropWord_l (s : State) : (s.dropWord).l = s.l := rfl
@[simp] theorem State.dropWord_a (s : State) : (s.dropWord).a = s.a := rfl
@[simp] theorem State.dropWord_pc (s : State) : (s.dropWord).pc = s.pc := rfl
@[simp] theorem State.dropWord_flags (s : State) : (s.dropWord).flags = s.flags := rfl
@[simp] theorem State.dropWord_inte (s : State) : (s.dropWord).inte = s.inte := rfl
@[simp] theorem State.dropWord_run (s : State) : (s.dropWord).run = s.run := rfl
@[simp] theorem State.dropWord_mem (s : State) : (s.dropWord).mem = s.mem := rfl
@[simp] theorem State.dropWord_port1 (s : State) : (s.dropWord).port1 = s.port1 := rfl
@[simp] theorem State.dropWord_port2 (s : State) : (s.dropWord).port2 = s.port2 := rfl
@[simp] theorem State.dropWord_shiftReg (s : State) : (s.dropWord).shiftReg = s.shiftReg := rfl
@[simp] theorem State.dropWord_shiftOffset (s : State) : (s.dropWord).shiftOffset = s.shiftOffset := rfl
@[simp] theorem State.dropWord_sp (s : State) : s.dropWord.sp = s.sp + 2#16 := rfl

/-! ## `setStackView` -/

@[simp] theorem State.setStackView_sp (s : State) (p : StackPair) (v : Word) : (s.setStackView p v).sp = s.sp := by cases p <;> rfl
@[simp] theorem State.setStackView_pc (s : State) (p : StackPair) (v : Word) : (s.setStackView p v).pc = s.pc := by cases p <;> rfl
@[simp] theorem State.setStackView_inte (s : State) (p : StackPair) (v : Word) : (s.setStackView p v).inte = s.inte := by cases p <;> rfl
@[simp] theorem State.setStackView_run (s : State) (p : StackPair) (v : Word) : (s.setStackView p v).run = s.run := by cases p <;> rfl
@[simp] theorem State.setStackView_mem (s : State) (p : StackPair) (v : Word) : (s.setStackView p v).mem = s.mem := by cases p <;> rfl
@[simp] theorem State.setStackView_port1 (s : State) (p : StackPair) (v : Word) : (s.setStackView p v).port1 = s.port1 := by cases p <;> rfl
@[simp] theorem State.setStackView_port2 (s : State) (p : StackPair) (v : Word) : (s.setStackView p v).port2 = s.port2 := by cases p <;> rfl
@[simp] theorem State.setStackView_shiftReg (s : State) (p : StackPair) (v : Word) : (s.setStackView p v).shiftReg = s.shiftReg := by cases p <;> rfl
@[simp] theorem State.setStackView_shiftOffset (s : State) (p : StackPair) (v : Word) : (s.setStackView p v).shiftOffset = s.shiftOffset := by cases p <;> rfl
@[simp] theorem State.setStackView_flags (s : State) (p : StackPair) (v : Word) : (s.setStackView p v).flags = if p = .psw then Flags.ofByte (lo8 v) else s.flags := by
  cases p <;> rfl

/-! ## `setAccCarry` -/

@[simp] theorem State.setAccCarry_b (s : State) (v : Byte) (cy : Bool) : (s.setAccCarry v cy).b = s.b := rfl
@[simp] theorem State.setAccCarry_c (s : State) (v : Byte) (cy : Bool) : (s.setAccCarry v cy).c = s.c := rfl
@[simp] theorem State.setAccCarry_d (s : State) (v : Byte) (cy : Bool) : (s.setAccCarry v cy).d = s.d := rfl
@[simp] theorem State.setAccCarry_e (s : State) (v : Byte) (cy : Bool) : (s.setAccCarry v cy).e = s.e := rfl
@[simp] theorem State.setAccCarry_h (s : State) (v : Byte) (cy : Bool) : (s.setAccCarry v cy).h = s.h := rfl
@[simp] theorem State.setAccCarry_l (s : State) (v : Byte) (cy : Bool) : (s.setAccCarry v cy).l = s.l := rfl
@[simp] theorem State.setAccCarry_sp (s : State) (v : Byte) (cy : Bool) : (s.setAccCarry v cy).sp = s.sp := rfl
@[simp] theorem State.setAccCarry_pc (s : State) (v : Byte) (cy : Bool) : (s.setAccCarry v cy).pc = s.pc := rfl
@[simp] theorem State.setAccCarry_inte (s : State) (v : Byte) (cy : Bool) : (s.setAccCarry v cy).inte = s.inte := rfl
@[simp] theorem State.setAccCarry_run (s : State) (v : Byte) (cy : Bool) : (s.setAccCarry v cy).run = s.run := rfl
@[simp] theorem State.setAccCarry_mem (s : State) (v : Byte) (cy : Bool) : (s.setAccCarry v cy).mem = s.mem := rfl
@[simp] theorem State.setAccCarry_port1 (s : State) (v : Byte) (cy : Bool) : (s.setAccCarry v cy).port1 = s.port1 := rfl
@[simp] theorem State.setAccCarry_port2 (s : State) (v : Byte) (cy : Bool) : (s.setAccCarry v cy).port2 = s.port2 := rfl
@[simp] theorem State.setAccCarry_shiftReg (s : State) (v : Byte) (cy : Bool) : (s.setAccCarry v cy).shiftReg = s.shiftReg := rfl
@[simp] theorem State.setAccCarry_shiftOffset (s : State) (v : Byte) (cy : Bool) : (s.setAccCarry v cy).shiftOffset = s.shiftOffset := rfl
@[simp] theorem State.setAccCarry_a (s : State) (v : Byte) (cy : Bool) : (s.setAccCarry v cy).a = v := rfl
@[simp] theorem State.setAccCarry_flags (s : State) (v : Byte) (cy : Bool) : (s.setAccCarry v cy).flags = { s.flags with cy := cy } := rfl

/-! ## `portWrite` -/

theorem State.portWrite_offset (s : State) (v : Byte) :
    s.portWrite Config.portShiftOffset v = { s with shiftOffset := v.setWidth 3 } := rfl

theorem State.portWrite_data (s : State) (v : Byte) :
    s.portWrite Config.portShiftData v = { s with shiftReg := join v (hi8 s.shiftReg) } := rfl

/-- An OUT to a port with no function changes nothing (R250). -/
theorem State.portWrite_other (s : State) {x : Byte} (v : Byte) (h : x ≠ Config.portShiftOffset)
    (h' : x ≠ Config.portShiftData) : s.portWrite x v = s := by
  rw [State.portWrite, if_neg h, if_neg h']

@[simp] theorem State.portWrite_b (s : State) (x v : Byte) : (s.portWrite x v).b = s.b := by
  unfold State.portWrite; split <;> [rfl; (split <;> rfl)]
@[simp] theorem State.portWrite_c (s : State) (x v : Byte) : (s.portWrite x v).c = s.c := by
  unfold State.portWrite; split <;> [rfl; (split <;> rfl)]
@[simp] theorem State.portWrite_d (s : State) (x v : Byte) : (s.portWrite x v).d = s.d := by
  unfold State.portWrite; split <;> [rfl; (split <;> rfl)]
@[simp] theorem State.portWrite_e (s : State) (x v : Byte) : (s.portWrite x v).e = s.e := by
  unfold State.portWrite; split <;> [rfl; (split <;> rfl)]
@[simp] theorem State.portWrite_h (s : State) (x v : Byte) : (s.portWrite x v).h = s.h := by
  unfold State.portWrite; split <;> [rfl; (split <;> rfl)]
@[simp] theorem State.portWrite_l (s : State) (x v : Byte) : (s.portWrite x v).l = s.l := by
  unfold State.portWrite; split <;> [rfl; (split <;> rfl)]
@[simp] theorem State.portWrite_a (s : State) (x v : Byte) : (s.portWrite x v).a = s.a := by
  unfold State.portWrite; split <;> [rfl; (split <;> rfl)]
@[simp] theorem State.portWrite_sp (s : State) (x v : Byte) : (s.portWrite x v).sp = s.sp := by
  unfold State.portWrite; split <;> [rfl; (split <;> rfl)]
@[simp] theorem State.portWrite_pc (s : State) (x v : Byte) : (s.portWrite x v).pc = s.pc := by
  unfold State.portWrite; split <;> [rfl; (split <;> rfl)]
@[simp] theorem State.portWrite_flags (s : State) (x v : Byte) : (s.portWrite x v).flags = s.flags := by
  unfold State.portWrite; split <;> [rfl; (split <;> rfl)]
@[simp] theorem State.portWrite_inte (s : State) (x v : Byte) : (s.portWrite x v).inte = s.inte := by
  unfold State.portWrite; split <;> [rfl; (split <;> rfl)]
@[simp] theorem State.portWrite_run (s : State) (x v : Byte) : (s.portWrite x v).run = s.run := by
  unfold State.portWrite; split <;> [rfl; (split <;> rfl)]
@[simp] theorem State.portWrite_mem (s : State) (x v : Byte) : (s.portWrite x v).mem = s.mem := by
  unfold State.portWrite; split <;> [rfl; (split <;> rfl)]
@[simp] theorem State.portWrite_port1 (s : State) (x v : Byte) : (s.portWrite x v).port1 = s.port1 := by
  unfold State.portWrite; split <;> [rfl; (split <;> rfl)]
@[simp] theorem State.portWrite_port2 (s : State) (x v : Byte) : (s.portWrite x v).port2 = s.port2 := by
  unfold State.portWrite; split <;> [rfl; (split <;> rfl)]

/-! ## `enterVector` -/

@[simp] theorem State.enterVector_b (s : State) (n : BitVec 3) : (s.enterVector n).b = s.b := rfl
@[simp] theorem State.enterVector_c (s : State) (n : BitVec 3) : (s.enterVector n).c = s.c := rfl
@[simp] theorem State.enterVector_d (s : State) (n : BitVec 3) : (s.enterVector n).d = s.d := rfl
@[simp] theorem State.enterVector_e (s : State) (n : BitVec 3) : (s.enterVector n).e = s.e := rfl
@[simp] theorem State.enterVector_h (s : State) (n : BitVec 3) : (s.enterVector n).h = s.h := rfl
@[simp] theorem State.enterVector_l (s : State) (n : BitVec 3) : (s.enterVector n).l = s.l := rfl
@[simp] theorem State.enterVector_a (s : State) (n : BitVec 3) : (s.enterVector n).a = s.a := rfl
@[simp] theorem State.enterVector_flags (s : State) (n : BitVec 3) : (s.enterVector n).flags = s.flags := rfl
@[simp] theorem State.enterVector_inte (s : State) (n : BitVec 3) : (s.enterVector n).inte = s.inte := rfl
@[simp] theorem State.enterVector_run (s : State) (n : BitVec 3) : (s.enterVector n).run = s.run := rfl
@[simp] theorem State.enterVector_port1 (s : State) (n : BitVec 3) : (s.enterVector n).port1 = s.port1 := rfl
@[simp] theorem State.enterVector_port2 (s : State) (n : BitVec 3) : (s.enterVector n).port2 = s.port2 := rfl
@[simp] theorem State.enterVector_shiftReg (s : State) (n : BitVec 3) : (s.enterVector n).shiftReg = s.shiftReg := rfl
@[simp] theorem State.enterVector_shiftOffset (s : State) (n : BitVec 3) : (s.enterVector n).shiftOffset = s.shiftOffset := rfl
@[simp] theorem State.enterVector_sp (s : State) (n : BitVec 3) : (s.enterVector n).sp = s.sp - 2#16 := rfl
@[simp] theorem State.enterVector_pc (s : State) (n : BitVec 3) : (s.enterVector n).pc = vector n := rfl

/-! ## The bytes a push stores and a pop reads -/

/-- Everything a push does to memory (R190). -/
theorem State.push16_read (s : State) (v x : Word) :
    (s.push16 v).mem.read x =
      if x = s.sp - 1#16 then hi8 v else if x = s.sp - 2#16 then lo8 v else s.mem.read x := by
  have h : s.sp - 1#16 ≠ s.sp - 2#16 := by bv_omega
  simp only [State.push16, Memory.read_write]
  split
  · next hx => rw [if_neg (by rw [hx]; exact h.symm)]
  · rfl

/-- What a push stores is what the next pop returns (R190, R191). -/
@[simp] theorem State.topWord_push16 (s : State) (v : Word) : (s.push16 v).topWord = v := by
  have h1 : s.sp - 2#16 + 1#16 = s.sp - 1#16 := by bv_omega
  have h2 : s.sp - 2#16 ≠ s.sp - 1#16 := by bv_omega
  simp [State.topWord, Memory.read16, State.push16_read, h1, h2]

/-- Everything a two-byte store does to memory (R53, R54). -/
theorem Memory.read_write16 (m : Memory) (x v y : Word) :
    (m.write16 x v).read y = if y = x then lo8 v else if y = x + 1#16 then hi8 v else m.read y := by
  have h : x ≠ x + 1#16 := by bv_omega
  simp only [Memory.write16, Memory.read_write]
  split
  · next hy => rw [if_neg (by rw [hy]; exact h.symm)]
  · rfl

@[simp] theorem Memory.read16_write16 (m : Memory) (x v : Word) : (m.write16 x v).read16 x = v := by
  have h : x + 1#16 ≠ x := by bv_omega
  simp [Memory.read16, Memory.read_write16, h]

/-! ## PSW -/

/-- The flags byte gives back the flags it was made from (R27, R198). -/
@[simp] theorem Flags.ofByte_toByte (f : Flags) : Flags.ofByte f.toByte = f := by
  obtain ⟨s, z, ac, p, cy⟩ := f
  cases s <;> cases z <;> cases ac <;> cases p <;> cases cy <;> rfl

end Machine

end Sys2Proof
end

