-- ==== Sys2Proof/Laws/Decoding.lean ====
section
/-! SUPPORT. The table and the encoder agree: every opcode byte has a row, and the row's instruction encodes to the bytes the
row is looked up with. -/

namespace Sys2Proof

/-- What a row of the table says of its opcode byte, in terms of the encoder. -/
def Row.Encodes (op : Byte) : Option Row → Prop
  | none => False
  | some (.bare i) => encode i = [op] ∧ i.length = 1
  | some (.imm8 f) => ∀ v, encode (f v) = [op, v] ∧ (f v).length = 2
  | some (.imm16 f) => ∀ w, encode (f w) = [op, lo8 w, hi8 w] ∧ (f w).length = 3

/-- Every opcode byte has a row, and the encoder agrees with it (R94, R95). -/
theorem tableRow_encodes (op : Byte) : Row.Encodes op (tableRow op) := by
  obtain ⟨⟨n, h⟩⟩ := op
  interval_cases n <;> first | exact ⟨rfl, rfl⟩ | exact fun _ => ⟨rfl, rfl⟩

theorem tableRow_ne_none (op : Byte) : tableRow op ≠ none := by
  intro h
  have := tableRow_encodes op
  rw [h] at this
  exact this

/-- Where the table has a bare row, its instruction is the one byte. -/
theorem encode_bare {op : Byte} {i : Instr} (h : tableRow op = some (.bare i)) : encode i = [op] ∧ i.length = 1 := by
  have := tableRow_encodes op
  rwa [h] at this

theorem encode_imm8 {op : Byte} {f : Byte → Instr} (h : tableRow op = some (.imm8 f)) (v : Byte) :
    encode (f v) = [op, v] ∧ (f v).length = 2 := by
  have := tableRow_encodes op
  rw [h] at this
  exact this v

theorem encode_imm16 {op : Byte} {f : Word → Instr} (h : tableRow op = some (.imm16 f)) (w : Word) :
    encode (f w) = [op, lo8 w, hi8 w] ∧ (f w).length = 3 := by
  have := tableRow_encodes op
  rw [h] at this
  exact this w

/-- Whatever two bytes follow an opcode byte, the three decode (R95). -/
theorem decode_three (op x y : Byte) : ∃ i rest, decode [op, x, y] = .instr i rest := by
  cases h : tableRow op with
  | none => exact absurd h (tableRow_ne_none op)
  | some row => cases row <;> exact ⟨_, _, by simp only [decode, h]; rfl⟩

end Sys2Proof
end

