-- ==== Sys2Proof/Laws/Forms.lean ====
section
/-! SUPPORT. The meanings seen by form: what each of the 50 forms does to the state, and that `exec` does exactly that. A proof
over all instructions goes through `exec_eq` and the forms, not through the 256 arms. -/

namespace Sys2Proof.Machine

/-- The effect of a two-operand ALU operation with the operand `v` (R87). -/
def State.aluEffect (s : State) (op : AluOp) (v : Byte) : State :=
  match op with
  | .add => s.addAcc v false
  | .adc => s.addAcc v s.flags.cy
  | .sub => s.subAcc v false
  | .sbb => s.subAcc v s.flags.cy
  | .ana => s.andAcc v
  | .xra => s.xorAcc v
  | .ora => s.orAcc v
  | .cmp => s.compareAcc v

/-- The effect of a form. -/
def State.effect (s : State) : Form → State
  | .nop => s
  | .undocumented _ => s
  | .mov dst src => s.moveReg dst src
  | .movFromM dst => s.moveFromM dst
  | .movToM src => s.storeM (s.reg src)
  | .mvi dst v => s.setReg dst v
  | .mviM v => s.storeM v
  | .lxi p w => s.setPair p w
  | .lda w => s.loadAcc w
  | .sta w => s.storeAcc w
  | .lhld w => s.loadHL w
  | .shld w => s.storeHL w
  | .ldax p => s.loadAcc (s.indexAddress p)
  | .stax p => s.storeAcc (s.indexAddress p)
  | .xchg => s.exchangeDEHL
  | .alu op src => s.aluEffect op (s.reg src)
  | .aluM op => s.aluEffect op s.readM
  | .aluI op v => s.aluEffect op v
  | .inr r => s.inrReg r
  | .inrM => s.inrMem
  | .dcr r => s.dcrReg r
  | .dcrM => s.dcrMem
  | .inx p => s.inxPair p
  | .dcx p => s.dcxPair p
  | .dad p => s.dadPair p
  | .daa => s.decimalAdjust
  | .rlc => s.rotateLeft
  | .rrc => s.rotateRight
  | .ral => s.rotateLeftCarry
  | .rar => s.rotateRightCarry
  | .cma => s.complementAcc
  | .cmc => s.complementCarry
  | .stc => s.setCarry
  | .push p => s.push16 (s.stackView p)
  | .pop p => s.popInto p
  | .xthl => s.exchangeTop
  | .sphl => s.loadSP
  | .jmp w => s.jump w
  | .jcc cond w => s.jumpIf cond w
  | .call w => s.call w
  | .ccc cond w => s.callIf cond w
  | .ret => s.ret
  | .rcc cond => s.retIf cond
  | .rst n => s.enterVector n
  | .pchl => s.jump (s.pair .hl)
  | .inp port => s.inputAcc port
  | .out port => s.portWrite port s.a
  | .hlt => s.halt
  | .ei => s.setInte true
  | .di => s.setInte false

/-- Every instruction completes, with the effect of its form. -/
theorem exec_eq (i : Instr) (s : State) : exec i s = .next (s.effect i.form) := by
  cases i <;> rfl

/-- The effect of an instruction whose form is known. -/
theorem exec_of_form {i : Instr} {f : Form} (h : i.form = f) (s : State) : exec i s = .next (s.effect f) := by
  rw [exec_eq, h]

/-- Every form with every operand is some instruction's, so that a statement over the instructions of one form is about
some instruction. -/
theorem form_onto : (f : Form) → ∃ i : Instr, i.form = f
  | .nop => ⟨.nop, rfl⟩
  | .lxi .bc w => ⟨.lxiB w, rfl⟩
  | .lxi .de w => ⟨.lxiD w, rfl⟩
  | .lxi .hl w => ⟨.lxiH w, rfl⟩
  | .lxi .sp w => ⟨.lxiSp w, rfl⟩
  | .stax .bc => ⟨.staxB, rfl⟩
  | .stax .de => ⟨.staxD, rfl⟩
  | .inx .bc => ⟨.inxB, rfl⟩
  | .inx .de => ⟨.inxD, rfl⟩
  | .inx .hl => ⟨.inxH, rfl⟩
  | .inx .sp => ⟨.inxSp, rfl⟩
  | .inr .b => ⟨.inrB, rfl⟩
  | .inr .c => ⟨.inrC, rfl⟩
  | .inr .d => ⟨.inrD, rfl⟩
  | .inr .e => ⟨.inrE, rfl⟩
  | .inr .h => ⟨.inrH, rfl⟩
  | .inr .l => ⟨.inrL, rfl⟩
  | .inr .a => ⟨.inrA, rfl⟩
  | .dcr .b => ⟨.dcrB, rfl⟩
  | .dcr .c => ⟨.dcrC, rfl⟩
  | .dcr .d => ⟨.dcrD, rfl⟩
  | .dcr .e => ⟨.dcrE, rfl⟩
  | .dcr .h => ⟨.dcrH, rfl⟩
  | .dcr .l => ⟨.dcrL, rfl⟩
  | .dcr .a => ⟨.dcrA, rfl⟩
  | .mvi .b v => ⟨.mviB v, rfl⟩
  | .mvi .c v => ⟨.mviC v, rfl⟩
  | .mvi .d v => ⟨.mviD v, rfl⟩
  | .mvi .e v => ⟨.mviE v, rfl⟩
  | .mvi .h v => ⟨.mviH v, rfl⟩
  | .mvi .l v => ⟨.mviL v, rfl⟩
  | .mvi .a v => ⟨.mviA v, rfl⟩
  | .rlc => ⟨.rlc, rfl⟩
  | .undocumented .u08 => ⟨.nop08, rfl⟩
  | .undocumented .u10 => ⟨.nop10, rfl⟩
  | .undocumented .u18 => ⟨.nop18, rfl⟩
  | .undocumented .u20 => ⟨.nop20, rfl⟩
  | .undocumented .u28 => ⟨.nop28, rfl⟩
  | .undocumented .u30 => ⟨.nop30, rfl⟩
  | .undocumented .u38 => ⟨.nop38, rfl⟩
  | .undocumented .uCB => ⟨.nopCB, rfl⟩
  | .undocumented .uD9 => ⟨.nopD9, rfl⟩
  | .undocumented .uDD => ⟨.nopDD, rfl⟩
  | .undocumented .uED => ⟨.nopED, rfl⟩
  | .undocumented .uFD => ⟨.nopFD, rfl⟩
  | .dad .bc => ⟨.dadB, rfl⟩
  | .dad .de => ⟨.dadD, rfl⟩
  | .dad .hl => ⟨.dadH, rfl⟩
  | .dad .sp => ⟨.dadSp, rfl⟩
  | .ldax .bc => ⟨.ldaxB, rfl⟩
  | .ldax .de => ⟨.ldaxD, rfl⟩
  | .dcx .bc => ⟨.dcxB, rfl⟩
  | .dcx .de => ⟨.dcxD, rfl⟩
  | .dcx .hl => ⟨.dcxH, rfl⟩
  | .dcx .sp => ⟨.dcxSp, rfl⟩
  | .rrc => ⟨.rrc, rfl⟩
  | .ral => ⟨.ral, rfl⟩
  | .rar => ⟨.rar, rfl⟩
  | .shld w => ⟨.shld w, rfl⟩
  | .daa => ⟨.daa, rfl⟩
  | .lhld w => ⟨.lhld w, rfl⟩
  | .cma => ⟨.cma, rfl⟩
  | .sta w => ⟨.sta w, rfl⟩
  | .inrM => ⟨.inrM, rfl⟩
  | .dcrM => ⟨.dcrM, rfl⟩
  | .mviM v => ⟨.mviM v, rfl⟩
  | .stc => ⟨.stc, rfl⟩
  | .lda w => ⟨.lda w, rfl⟩
  | .cmc => ⟨.cmc, rfl⟩
  | .mov .b .b => ⟨.movBB, rfl⟩
  | .mov .b .c => ⟨.movBC, rfl⟩
  | .mov .b .d => ⟨.movBD, rfl⟩
  | .mov .b .e => ⟨.movBE, rfl⟩
  | .mov .b .h => ⟨.movBH, rfl⟩
  | .mov .b .l => ⟨.movBL, rfl⟩
  | .mov .b .a => ⟨.movBA, rfl⟩
  | .mov .c .b => ⟨.movCB, rfl⟩
  | .mov .c .c => ⟨.movCC, rfl⟩
  | .mov .c .d => ⟨.movCD, rfl⟩
  | .mov .c .e => ⟨.movCE, rfl⟩
  | .mov .c .h => ⟨.movCH, rfl⟩
  | .mov .c .l => ⟨.movCL, rfl⟩
  | .mov .c .a => ⟨.movCA, rfl⟩
  | .mov .d .b => ⟨.movDB, rfl⟩
  | .mov .d .c => ⟨.movDC, rfl⟩
  | .mov .d .d => ⟨.movDD, rfl⟩
  | .mov .d .e => ⟨.movDE, rfl⟩
  | .mov .d .h => ⟨.movDH, rfl⟩
  | .mov .d .l => ⟨.movDL, rfl⟩
  | .mov .d .a => ⟨.movDA, rfl⟩
  | .mov .e .b => ⟨.movEB, rfl⟩
  | .mov .e .c => ⟨.movEC, rfl⟩
  | .mov .e .d => ⟨.movED, rfl⟩
  | .mov .e .e => ⟨.movEE, rfl⟩
  | .mov .e .h => ⟨.movEH, rfl⟩
  | .mov .e .l => ⟨.movEL, rfl⟩
  | .mov .e .a => ⟨.movEA, rfl⟩
  | .mov .h .b => ⟨.movHB, rfl⟩
  | .mov .h .c => ⟨.movHC, rfl⟩
  | .mov .h .d => ⟨.movHD, rfl⟩
  | .mov .h .e => ⟨.movHE, rfl⟩
  | .mov .h .h => ⟨.movHH, rfl⟩
  | .mov .h .l => ⟨.movHL, rfl⟩
  | .mov .h .a => ⟨.movHA, rfl⟩
  | .mov .l .b => ⟨.movLB, rfl⟩
  | .mov .l .c => ⟨.movLC, rfl⟩
  | .mov .l .d => ⟨.movLD, rfl⟩
  | .mov .l .e => ⟨.movLE, rfl⟩
  | .mov .l .h => ⟨.movLH, rfl⟩
  | .mov .l .l => ⟨.movLL, rfl⟩
  | .mov .l .a => ⟨.movLA, rfl⟩
  | .mov .a .b => ⟨.movAB, rfl⟩
  | .mov .a .c => ⟨.movAC, rfl⟩
  | .mov .a .d => ⟨.movAD, rfl⟩
  | .mov .a .e => ⟨.movAE, rfl⟩
  | .mov .a .h => ⟨.movAH, rfl⟩
  | .mov .a .l => ⟨.movAL, rfl⟩
  | .mov .a .a => ⟨.movAA, rfl⟩
  | .movFromM .b => ⟨.movBM, rfl⟩
  | .movFromM .c => ⟨.movCM, rfl⟩
  | .movFromM .d => ⟨.movDM, rfl⟩
  | .movFromM .e => ⟨.movEM, rfl⟩
  | .movFromM .h => ⟨.movHM, rfl⟩
  | .movFromM .l => ⟨.movLM, rfl⟩
  | .movFromM .a => ⟨.movAM, rfl⟩
  | .movToM .b => ⟨.movMB, rfl⟩
  | .movToM .c => ⟨.movMC, rfl⟩
  | .movToM .d => ⟨.movMD, rfl⟩
  | .movToM .e => ⟨.movME, rfl⟩
  | .movToM .h => ⟨.movMH, rfl⟩
  | .movToM .l => ⟨.movML, rfl⟩
  | .movToM .a => ⟨.movMA, rfl⟩
  | .hlt => ⟨.hlt, rfl⟩
  | .alu .add .b => ⟨.addB, rfl⟩
  | .alu .add .c => ⟨.addC, rfl⟩
  | .alu .add .d => ⟨.addD, rfl⟩
  | .alu .add .e => ⟨.addE, rfl⟩
  | .alu .add .h => ⟨.addH, rfl⟩
  | .alu .add .l => ⟨.addL, rfl⟩
  | .alu .add .a => ⟨.addA, rfl⟩
  | .alu .adc .b => ⟨.adcB, rfl⟩
  | .alu .adc .c => ⟨.adcC, rfl⟩
  | .alu .adc .d => ⟨.adcD, rfl⟩
  | .alu .adc .e => ⟨.adcE, rfl⟩
  | .alu .adc .h => ⟨.adcH, rfl⟩
  | .alu .adc .l => ⟨.adcL, rfl⟩
  | .alu .adc .a => ⟨.adcA, rfl⟩
  | .alu .sub .b => ⟨.subB, rfl⟩
  | .alu .sub .c => ⟨.subC, rfl⟩
  | .alu .sub .d => ⟨.subD, rfl⟩
  | .alu .sub .e => ⟨.subE, rfl⟩
  | .alu .sub .h => ⟨.subH, rfl⟩
  | .alu .sub .l => ⟨.subL, rfl⟩
  | .alu .sub .a => ⟨.subA, rfl⟩
  | .alu .sbb .b => ⟨.sbbB, rfl⟩
  | .alu .sbb .c => ⟨.sbbC, rfl⟩
  | .alu .sbb .d => ⟨.sbbD, rfl⟩
  | .alu .sbb .e => ⟨.sbbE, rfl⟩
  | .alu .sbb .h => ⟨.sbbH, rfl⟩
  | .alu .sbb .l => ⟨.sbbL, rfl⟩
  | .alu .sbb .a => ⟨.sbbA, rfl⟩
  | .alu .ana .b => ⟨.anaB, rfl⟩
  | .alu .ana .c => ⟨.anaC, rfl⟩
  | .alu .ana .d => ⟨.anaD, rfl⟩
  | .alu .ana .e => ⟨.anaE, rfl⟩
  | .alu .ana .h => ⟨.anaH, rfl⟩
  | .alu .ana .l => ⟨.anaL, rfl⟩
  | .alu .ana .a => ⟨.anaA, rfl⟩
  | .alu .xra .b => ⟨.xraB, rfl⟩
  | .alu .xra .c => ⟨.xraC, rfl⟩
  | .alu .xra .d => ⟨.xraD, rfl⟩
  | .alu .xra .e => ⟨.xraE, rfl⟩
  | .alu .xra .h => ⟨.xraH, rfl⟩
  | .alu .xra .l => ⟨.xraL, rfl⟩
  | .alu .xra .a => ⟨.xraA, rfl⟩
  | .alu .ora .b => ⟨.oraB, rfl⟩
  | .alu .ora .c => ⟨.oraC, rfl⟩
  | .alu .ora .d => ⟨.oraD, rfl⟩
  | .alu .ora .e => ⟨.oraE, rfl⟩
  | .alu .ora .h => ⟨.oraH, rfl⟩
  | .alu .ora .l => ⟨.oraL, rfl⟩
  | .alu .ora .a => ⟨.oraA, rfl⟩
  | .alu .cmp .b => ⟨.cmpB, rfl⟩
  | .alu .cmp .c => ⟨.cmpC, rfl⟩
  | .alu .cmp .d => ⟨.cmpD, rfl⟩
  | .alu .cmp .e => ⟨.cmpE, rfl⟩
  | .alu .cmp .h => ⟨.cmpH, rfl⟩
  | .alu .cmp .l => ⟨.cmpL, rfl⟩
  | .alu .cmp .a => ⟨.cmpA, rfl⟩
  | .aluM .add => ⟨.addM, rfl⟩
  | .aluM .adc => ⟨.adcM, rfl⟩
  | .aluM .sub => ⟨.subM, rfl⟩
  | .aluM .sbb => ⟨.sbbM, rfl⟩
  | .aluM .ana => ⟨.anaM, rfl⟩
  | .aluM .xra => ⟨.xraM, rfl⟩
  | .aluM .ora => ⟨.oraM, rfl⟩
  | .aluM .cmp => ⟨.cmpM, rfl⟩
  | .rcc .nz => ⟨.rnz, rfl⟩
  | .rcc .z => ⟨.rz, rfl⟩
  | .rcc .nc => ⟨.rnc, rfl⟩
  | .rcc .c => ⟨.rc, rfl⟩
  | .rcc .po => ⟨.rpo, rfl⟩
  | .rcc .pe => ⟨.rpe, rfl⟩
  | .rcc .p => ⟨.rp, rfl⟩
  | .rcc .m => ⟨.rm, rfl⟩
  | .pop .bc => ⟨.popB, rfl⟩
  | .pop .de => ⟨.popD, rfl⟩
  | .pop .hl => ⟨.popH, rfl⟩
  | .pop .psw => ⟨.popPsw, rfl⟩
  | .jcc .nz w => ⟨.jnz w, rfl⟩
  | .jcc .z w => ⟨.jz w, rfl⟩
  | .jcc .nc w => ⟨.jnc w, rfl⟩
  | .jcc .c w => ⟨.jc w, rfl⟩
  | .jcc .po w => ⟨.jpo w, rfl⟩
  | .jcc .pe w => ⟨.jpe w, rfl⟩
  | .jcc .p w => ⟨.jp w, rfl⟩
  | .jcc .m w => ⟨.jm w, rfl⟩
  | .jmp w => ⟨.jmp w, rfl⟩
  | .ccc .nz w => ⟨.cnz w, rfl⟩
  | .ccc .z w => ⟨.cz w, rfl⟩
  | .ccc .nc w => ⟨.cnc w, rfl⟩
  | .ccc .c w => ⟨.cc w, rfl⟩
  | .ccc .po w => ⟨.cpo w, rfl⟩
  | .ccc .pe w => ⟨.cpe w, rfl⟩
  | .ccc .p w => ⟨.cp w, rfl⟩
  | .ccc .m w => ⟨.cm w, rfl⟩
  | .push .bc => ⟨.pushB, rfl⟩
  | .push .de => ⟨.pushD, rfl⟩
  | .push .hl => ⟨.pushH, rfl⟩
  | .push .psw => ⟨.pushPsw, rfl⟩
  | .aluI .add v => ⟨.adi v, rfl⟩
  | .aluI .adc v => ⟨.aci v, rfl⟩
  | .aluI .sub v => ⟨.sui v, rfl⟩
  | .aluI .sbb v => ⟨.sbi v, rfl⟩
  | .aluI .ana v => ⟨.ani v, rfl⟩
  | .aluI .xra v => ⟨.xri v, rfl⟩
  | .aluI .ora v => ⟨.ori v, rfl⟩
  | .aluI .cmp v => ⟨.cpi v, rfl⟩
  | .ret => ⟨.ret, rfl⟩
  | .call w => ⟨.call w, rfl⟩
  | .out v => ⟨.outPort v, rfl⟩
  | .inp v => ⟨.inPort v, rfl⟩
  | .xthl => ⟨.xthl, rfl⟩
  | .pchl => ⟨.pchl, rfl⟩
  | .xchg => ⟨.xchg, rfl⟩
  | .di => ⟨.di, rfl⟩
  | .sphl => ⟨.sphl, rfl⟩
  | .ei => ⟨.ei, rfl⟩
  | .rst n => by
    have h : n = 0 ∨ n = 1 ∨ n = 2 ∨ n = 3 ∨ n = 4 ∨ n = 5 ∨ n = 6 ∨ n = 7 := by revert n; decide
    rcases h with rfl | rfl | rfl | rfl | rfl | rfl | rfl | rfl
    exacts [⟨.rst0, rfl⟩, ⟨.rst1, rfl⟩, ⟨.rst2, rfl⟩, ⟨.rst3, rfl⟩, ⟨.rst4, rfl⟩, ⟨.rst5, rfl⟩, ⟨.rst6, rfl⟩, ⟨.rst7, rfl⟩]

end Sys2Proof.Machine
end

