-- ==== Sys2Proof/Laws/Effects.lean ====
section
/-! SUPPORT. What the effects of the forms can do to the whole state, said once: which register a write of a register or pair
changes, that every effect keeps memory's canonical form, and that only HLT changes the run state. -/

namespace Sys2Proof.Machine

/-- A register write changes that register and no other (R21). -/
theorem State.reg_setReg (s : State) (r q : Reg) (v : Byte) : (s.setReg r v).reg q = if q = r then v else s.reg q := by
  cases r <;> cases q <;> rfl

/-- A pair write changes that pair and no other (R22). -/
theorem State.pair_setPair (s : State) (p q : Pair) (w : Word) :
    (s.setPair p w).pair q = if q = p then w else s.pair q := by
  cases p <;> cases q <;> simp [State.setPair, State.pair]

/-- The memory a push leaves (R190). -/
theorem State.push16_mem (s : State) (v : Word) :
    (s.push16 v).mem = (s.mem.write (s.sp - 1#16) (hi8 v)).write (s.sp - 2#16) (lo8 v) := rfl

/-- A push keeps memory's canonical form. -/
theorem State.wf_push16 {s : State} (h : s.mem.wf = true) (v : Word) : (s.push16 v).mem.wf = true := by
  rw [State.push16_mem]
  exact Memory.wf_write (Memory.wf_write h _ _) _ _

/-- A store keeps memory's canonical form. -/
theorem State.wf_store {s : State} (h : s.mem.wf = true) (x : Word) (v : Byte) : (s.store x v).mem.wf = true := by
  show (s.mem.write x v).wf = true
  exact Memory.wf_write h _ _

theorem State.wf_aluEffect {s : State} (h : s.mem.wf = true) (op : AluOp) (v : Byte) : (s.aluEffect op v).mem.wf = true := by
  cases op <;> exact h

theorem State.wf_setReg {s : State} (h : s.mem.wf = true) (r : Reg) (v : Byte) : (s.setReg r v).mem.wf = true := by
  cases r <;> exact h

theorem State.wf_setPair {s : State} (h : s.mem.wf = true) (p : Pair) (w : Word) : (s.setPair p w).mem.wf = true := by
  cases p <;> exact h

/-- Only HLT changes the run state (R29). -/
theorem State.effect_run (s : State) (f : Form) (h : f ≠ .hlt) : (s.effect f).run = s.run := by
  cases f
  case hlt => exact absurd rfl h
  case alu op _ => cases op <;> rfl
  case aluM op => cases op <;> rfl
  case aluI op _ => cases op <;> rfl
  case mov dst _ => cases dst <;> rfl
  case mvi dst _ => cases dst <;> rfl
  case lxi p _ => cases p <;> rfl
  case movFromM dst => cases dst <;> rfl
  case inr r => cases r <;> rfl
  case dcr r => cases r <;> rfl
  case inx p => cases p <;> rfl
  case dcx p => cases p <;> rfl
  case pop p => cases p <;> rfl
  case jcc => simp only [State.effect, State.jumpIf]; split <;> rfl
  case ccc => simp only [State.effect, State.callIf]; split <;> rfl
  case rcc => simp only [State.effect, State.retIf]; split <;> rfl
  case out port => exact State.portWrite_run _ _ _
  all_goals rfl

/-- Every effect keeps memory's canonical form. -/
theorem State.effect_wf {s : State} (h : s.mem.wf = true) (f : Form) : (s.effect f).mem.wf = true := by
  cases f
  case alu op _ => exact State.wf_aluEffect h _ _
  case aluM op => exact State.wf_aluEffect h _ _
  case aluI op _ => exact State.wf_aluEffect h _ _
  case mov dst _ => exact State.wf_setReg h _ _
  case mvi dst _ => exact State.wf_setReg h _ _
  case movFromM dst => exact State.wf_setReg h _ _
  case inr r => exact State.wf_setReg h _ _
  case dcr r => exact State.wf_setReg h _ _
  case lxi p _ => exact State.wf_setPair h _ _
  case inx p => exact State.wf_setPair h _ _
  case dcx p => exact State.wf_setPair h _ _
  case pop p => cases p <;> exact h
  case jcc => simp only [State.effect, State.jumpIf]; split <;> exact h
  case rcc => simp only [State.effect, State.retIf]; split <;> exact h
  case ccc cond w =>
    simp only [State.effect, State.callIf]
    split
    · exact State.wf_push16 h _
    · exact h
  case out port =>
    rw [State.effect, State.portWrite_mem]
    exact h
  case call => exact State.wf_push16 h _
  case rst => exact State.wf_push16 h _
  case push => exact State.wf_push16 h _
  case xthl => exact Memory.wf_write16 h _ _
  case shld => exact Memory.wf_write16 h _ _
  case movToM => exact State.wf_store h _ _
  case mviM => exact State.wf_store h _ _
  case inrM => exact State.wf_store h _ _
  case dcrM => exact State.wf_store h _ _
  case sta => exact State.wf_store h _ _
  case stax => exact State.wf_store h _ _
  all_goals exact h

end Sys2Proof.Machine
end

