-- ==== Sys2Proof/Laws/Flags.lean ====
section
/-! SUPPORT. The ALU in whole numbers: what `add8` and `sub8` give, as sums and comparisons of the operands (R131, R132). -/

namespace Sys2Proof.Machine

theorem toNat_bit (w : Nat) (h : 0 < w) (b : Bool) : ((BitVec.ofBool b).setWidth w).toNat = b.toNat := by
  have : 1 < 2 ^ w := Nat.one_lt_two_pow (by omega)
  cases b <;> simp [Nat.mod_eq_of_lt this]

theorem toNat_wideSum (a b : Byte) (cin : Bool) : (wideSum a b cin).toNat = a.toNat + b.toNat + cin.toNat := by
  have ha := a.isLt
  have hb := b.isLt
  have hc := Bool.toNat_le cin
  simp only [wideSum, BitVec.toNat_add, BitVec.toNat_setWidth, toNat_bit 9 (by omega)]
  omega

theorem toNat_nibbleSum (a b : Byte) (cin : Bool) :
    (nibbleSum a b cin).toNat = a.toNat % 16 + b.toNat % 16 + cin.toNat := by
  have hc := Bool.toNat_le cin
  simp only [nibbleSum, BitVec.toNat_add, BitVec.toNat_setWidth, toNat_bit 5 (by omega), BitVec.extractLsb'_toNat,
    Nat.shiftRight_zero]
  omega

/-- The top bit of a number of `w + 1` bits says whether it reaches `2 ^ w`. -/
theorem topBit_eq {w : Nat} (x : BitVec (w + 1)) : x.getLsbD w = decide (2 ^ w ≤ x.toNat) := by
  have h : x.toNat / 2 ^ w < 2 := by
    have := x.isLt
    rw [Nat.pow_succ] at this
    rw [Nat.div_lt_iff_lt_mul (Nat.two_pow_pos w), Nat.mul_comm]
    omega
  rw [BitVec.getLsbD, Nat.testBit_eq_decide_div_mod_eq, Nat.mod_eq_of_lt h, decide_eq_decide]
  rw [← Nat.one_le_div_iff (Nat.two_pow_pos w)]
  omega

theorem add8_value (a b : Byte) (cin : Bool) :
    (add8 a b cin).value = BitVec.ofNat 8 (a.toNat + b.toNat + cin.toNat) := by
  apply BitVec.eq_of_toNat_eq
  simp [add8, toNat_wideSum]

theorem add8_cy (a b : Byte) (cin : Bool) :
    (add8 a b cin).cy = decide (256 ≤ a.toNat + b.toNat + cin.toNat) := by
  rw [add8, topBit_eq (w := 8), toNat_wideSum]
  rfl

theorem add8_ac (a b : Byte) (cin : Bool) :
    (add8 a b cin).ac = decide (16 ≤ a.toNat % 16 + b.toNat % 16 + cin.toNat) := by
  rw [add8, topBit_eq (w := 4), toNat_nibbleSum]
  rfl

theorem toNat_not8 (b : Byte) : (~~~b).toNat = 255 - b.toNat := by
  rw [BitVec.toNat_not]

theorem toNat_borrow (b : Bool) : (!b).toNat = 1 - b.toNat := by cases b <;> rfl

theorem sub8_value (a b : Byte) (bin : Bool) :
    (sub8 a b bin).value = BitVec.ofInt 8 ((a.toNat : Int) - b.toNat - bin.toNat) := by
  have ha := a.isLt
  have hb := b.isLt
  have hc := Bool.toNat_le bin
  apply BitVec.eq_of_toNat_eq
  simp only [sub8, BitVec.toNat_setWidth, toNat_wideSum, toNat_not8, toNat_borrow, BitVec.toNat_ofInt]
  omega

theorem sub8_cy (a b : Byte) (bin : Bool) :
    (sub8 a b bin).cy = decide (a.toNat < b.toNat + bin.toNat) := by
  have ha := a.isLt
  have hb := b.isLt
  have hc := Bool.toNat_le bin
  rw [sub8, topBit_eq (w := 8), toNat_wideSum, toNat_not8, toNat_borrow, ← decide_not, decide_eq_decide]
  omega

theorem sub8_ac (a b : Byte) (bin : Bool) :
    (sub8 a b bin).ac = decide (b.toNat % 16 + bin.toNat ≤ a.toNat % 16) := by
  have hb := b.isLt
  have hc := Bool.toNat_le bin
  rw [sub8, topBit_eq (w := 4), toNat_nibbleSum, toNat_not8, toNat_borrow, decide_eq_decide]
  omega

/-- Sign is the top bit of the result (R130). -/
theorem resultFlags_s (v : Byte) (ac cy : Bool) : (resultFlags v ac cy).s = decide (128 ≤ v.toNat) :=
  topBit_eq (w := 7) v

/-- Zero compares the result with 0 (R130). -/
theorem resultFlags_z (v : Byte) (ac cy : Bool) : (resultFlags v ac cy).z = decide (v.toNat = 0) := by
  rw [resultFlags, Bool.beq_eq_decide_eq, decide_eq_decide, ← BitVec.toNat_inj]
  rfl

@[simp] theorem resultFlags_ac (v : Byte) (ac cy : Bool) : (resultFlags v ac cy).ac = ac := rfl
@[simp] theorem resultFlags_cy (v : Byte) (ac cy : Bool) : (resultFlags v ac cy).cy = cy := rfl
@[simp] theorem resultFlags_p (v : Byte) (ac cy : Bool) : (resultFlags v ac cy).p = parity8 v := rfl

end Sys2Proof.Machine
end

