-- ==== Sys2Proof/Laws/PerInstr.lean ====
section
/-! SUPPORT. Statements about every instruction as syntax, one lemma per constructor of `Instr`. -/

namespace Sys2Proof.Laws.Encoding

/-- The encoder gives as many bytes as the instruction's format (R81), and R83's list of lengths accepts them. -/
def Statement (i : Instr) : Prop := (encode i).length = i.length ∧ checkBytes (encode i) = .wellFormed

theorem nop : Statement .nop := ⟨rfl, rfl⟩
theorem lxiB (w : Word) : Statement (.lxiB w) := ⟨rfl, rfl⟩
theorem staxB : Statement .staxB := ⟨rfl, rfl⟩
theorem inxB : Statement .inxB := ⟨rfl, rfl⟩
theorem inrB : Statement .inrB := ⟨rfl, rfl⟩
theorem dcrB : Statement .dcrB := ⟨rfl, rfl⟩
theorem mviB (v : Byte) : Statement (.mviB v) := ⟨rfl, rfl⟩
theorem rlc : Statement .rlc := ⟨rfl, rfl⟩
theorem nop08 : Statement .nop08 := ⟨rfl, rfl⟩
theorem dadB : Statement .dadB := ⟨rfl, rfl⟩
theorem ldaxB : Statement .ldaxB := ⟨rfl, rfl⟩
theorem dcxB : Statement .dcxB := ⟨rfl, rfl⟩
theorem inrC : Statement .inrC := ⟨rfl, rfl⟩
theorem dcrC : Statement .dcrC := ⟨rfl, rfl⟩
theorem mviC (v : Byte) : Statement (.mviC v) := ⟨rfl, rfl⟩
theorem rrc : Statement .rrc := ⟨rfl, rfl⟩
theorem nop10 : Statement .nop10 := ⟨rfl, rfl⟩
theorem lxiD (w : Word) : Statement (.lxiD w) := ⟨rfl, rfl⟩
theorem staxD : Statement .staxD := ⟨rfl, rfl⟩
theorem inxD : Statement .inxD := ⟨rfl, rfl⟩
theorem inrD : Statement .inrD := ⟨rfl, rfl⟩
theorem dcrD : Statement .dcrD := ⟨rfl, rfl⟩
theorem mviD (v : Byte) : Statement (.mviD v) := ⟨rfl, rfl⟩
theorem ral : Statement .ral := ⟨rfl, rfl⟩
theorem nop18 : Statement .nop18 := ⟨rfl, rfl⟩
theorem dadD : Statement .dadD := ⟨rfl, rfl⟩
theorem ldaxD : Statement .ldaxD := ⟨rfl, rfl⟩
theorem dcxD : Statement .dcxD := ⟨rfl, rfl⟩
theorem inrE : Statement .inrE := ⟨rfl, rfl⟩
theorem dcrE : Statement .dcrE := ⟨rfl, rfl⟩
theorem mviE (v : Byte) : Statement (.mviE v) := ⟨rfl, rfl⟩
theorem rar : Statement .rar := ⟨rfl, rfl⟩
theorem nop20 : Statement .nop20 := ⟨rfl, rfl⟩
theorem lxiH (w : Word) : Statement (.lxiH w) := ⟨rfl, rfl⟩
theorem shld (w : Word) : Statement (.shld w) := ⟨rfl, rfl⟩
theorem inxH : Statement .inxH := ⟨rfl, rfl⟩
theorem inrH : Statement .inrH := ⟨rfl, rfl⟩
theorem dcrH : Statement .dcrH := ⟨rfl, rfl⟩
theorem mviH (v : Byte) : Statement (.mviH v) := ⟨rfl, rfl⟩
theorem daa : Statement .daa := ⟨rfl, rfl⟩
theorem nop28 : Statement .nop28 := ⟨rfl, rfl⟩
theorem dadH : Statement .dadH := ⟨rfl, rfl⟩
theorem lhld (w : Word) : Statement (.lhld w) := ⟨rfl, rfl⟩
theorem dcxH : Statement .dcxH := ⟨rfl, rfl⟩
theorem inrL : Statement .inrL := ⟨rfl, rfl⟩
theorem dcrL : Statement .dcrL := ⟨rfl, rfl⟩
theorem mviL (v : Byte) : Statement (.mviL v) := ⟨rfl, rfl⟩
theorem cma : Statement .cma := ⟨rfl, rfl⟩
theorem nop30 : Statement .nop30 := ⟨rfl, rfl⟩
theorem lxiSp (w : Word) : Statement (.lxiSp w) := ⟨rfl, rfl⟩
theorem sta (w : Word) : Statement (.sta w) := ⟨rfl, rfl⟩
theorem inxSp : Statement .inxSp := ⟨rfl, rfl⟩
theorem inrM : Statement .inrM := ⟨rfl, rfl⟩
theorem dcrM : Statement .dcrM := ⟨rfl, rfl⟩
theorem mviM (v : Byte) : Statement (.mviM v) := ⟨rfl, rfl⟩
theorem stc : Statement .stc := ⟨rfl, rfl⟩
theorem nop38 : Statement .nop38 := ⟨rfl, rfl⟩
theorem dadSp : Statement .dadSp := ⟨rfl, rfl⟩
theorem lda (w : Word) : Statement (.lda w) := ⟨rfl, rfl⟩
theorem dcxSp : Statement .dcxSp := ⟨rfl, rfl⟩
theorem inrA : Statement .inrA := ⟨rfl, rfl⟩
theorem dcrA : Statement .dcrA := ⟨rfl, rfl⟩
theorem mviA (v : Byte) : Statement (.mviA v) := ⟨rfl, rfl⟩
theorem cmc : Statement .cmc := ⟨rfl, rfl⟩
theorem movBB : Statement .movBB := ⟨rfl, rfl⟩
theorem movBC : Statement .movBC := ⟨rfl, rfl⟩
theorem movBD : Statement .movBD := ⟨rfl, rfl⟩
theorem movBE : Statement .movBE := ⟨rfl, rfl⟩
theorem movBH : Statement .movBH := ⟨rfl, rfl⟩
theorem movBL : Statement .movBL := ⟨rfl, rfl⟩
theorem movBM : Statement .movBM := ⟨rfl, rfl⟩
theorem movBA : Statement .movBA := ⟨rfl, rfl⟩
theorem movCB : Statement .movCB := ⟨rfl, rfl⟩
theorem movCC : Statement .movCC := ⟨rfl, rfl⟩
theorem movCD : Statement .movCD := ⟨rfl, rfl⟩
theorem movCE : Statement .movCE := ⟨rfl, rfl⟩
theorem movCH : Statement .movCH := ⟨rfl, rfl⟩
theorem movCL : Statement .movCL := ⟨rfl, rfl⟩
theorem movCM : Statement .movCM := ⟨rfl, rfl⟩
theorem movCA : Statement .movCA := ⟨rfl, rfl⟩
theorem movDB : Statement .movDB := ⟨rfl, rfl⟩
theorem movDC : Statement .movDC := ⟨rfl, rfl⟩
theorem movDD : Statement .movDD := ⟨rfl, rfl⟩
theorem movDE : Statement .movDE := ⟨rfl, rfl⟩
theorem movDH : Statement .movDH := ⟨rfl, rfl⟩
theorem movDL : Statement .movDL := ⟨rfl, rfl⟩
theorem movDM : Statement .movDM := ⟨rfl, rfl⟩
theorem movDA : Statement .movDA := ⟨rfl, rfl⟩
theorem movEB : Statement .movEB := ⟨rfl, rfl⟩
theorem movEC : Statement .movEC := ⟨rfl, rfl⟩
theorem movED : Statement .movED := ⟨rfl, rfl⟩
theorem movEE : Statement .movEE := ⟨rfl, rfl⟩
theorem movEH : Statement .movEH := ⟨rfl, rfl⟩
theorem movEL : Statement .movEL := ⟨rfl, rfl⟩
theorem movEM : Statement .movEM := ⟨rfl, rfl⟩
theorem movEA : Statement .movEA := ⟨rfl, rfl⟩
theorem movHB : Statement .movHB := ⟨rfl, rfl⟩
theorem movHC : Statement .movHC := ⟨rfl, rfl⟩
theorem movHD : Statement .movHD := ⟨rfl, rfl⟩
theorem movHE : Statement .movHE := ⟨rfl, rfl⟩
theorem movHH : Statement .movHH := ⟨rfl, rfl⟩
theorem movHL : Statement .movHL := ⟨rfl, rfl⟩
theorem movHM : Statement .movHM := ⟨rfl, rfl⟩
theorem movHA : Statement .movHA := ⟨rfl, rfl⟩
theorem movLB : Statement .movLB := ⟨rfl, rfl⟩
theorem movLC : Statement .movLC := ⟨rfl, rfl⟩
theorem movLD : Statement .movLD := ⟨rfl, rfl⟩
theorem movLE : Statement .movLE := ⟨rfl, rfl⟩
theorem movLH : Statement .movLH := ⟨rfl, rfl⟩
theorem movLL : Statement .movLL := ⟨rfl, rfl⟩
theorem movLM : Statement .movLM := ⟨rfl, rfl⟩
theorem movLA : Statement .movLA := ⟨rfl, rfl⟩
theorem movMB : Statement .movMB := ⟨rfl, rfl⟩
theorem movMC : Statement .movMC := ⟨rfl, rfl⟩
theorem movMD : Statement .movMD := ⟨rfl, rfl⟩
theorem movME : Statement .movME := ⟨rfl, rfl⟩
theorem movMH : Statement .movMH := ⟨rfl, rfl⟩
theorem movML : Statement .movML := ⟨rfl, rfl⟩
theorem hlt : Statement .hlt := ⟨rfl, rfl⟩
theorem movMA : Statement .movMA := ⟨rfl, rfl⟩
theorem movAB : Statement .movAB := ⟨rfl, rfl⟩
theorem movAC : Statement .movAC := ⟨rfl, rfl⟩
theorem movAD : Statement .movAD := ⟨rfl, rfl⟩
theorem movAE : Statement .movAE := ⟨rfl, rfl⟩
theorem movAH : Statement .movAH := ⟨rfl, rfl⟩
theorem movAL : Statement .movAL := ⟨rfl, rfl⟩
theorem movAM : Statement .movAM := ⟨rfl, rfl⟩
theorem movAA : Statement .movAA := ⟨rfl, rfl⟩
theorem addB : Statement .addB := ⟨rfl, rfl⟩
theorem addC : Statement .addC := ⟨rfl, rfl⟩
theorem addD : Statement .addD := ⟨rfl, rfl⟩
theorem addE : Statement .addE := ⟨rfl, rfl⟩
theorem addH : Statement .addH := ⟨rfl, rfl⟩
theorem addL : Statement .addL := ⟨rfl, rfl⟩
theorem addM : Statement .addM := ⟨rfl, rfl⟩
theorem addA : Statement .addA := ⟨rfl, rfl⟩
theorem adcB : Statement .adcB := ⟨rfl, rfl⟩
theorem adcC : Statement .adcC := ⟨rfl, rfl⟩
theorem adcD : Statement .adcD := ⟨rfl, rfl⟩
theorem adcE : Statement .adcE := ⟨rfl, rfl⟩
theorem adcH : Statement .adcH := ⟨rfl, rfl⟩
theorem adcL : Statement .adcL := ⟨rfl, rfl⟩
theorem adcM : Statement .adcM := ⟨rfl, rfl⟩
theorem adcA : Statement .adcA := ⟨rfl, rfl⟩
theorem subB : Statement .subB := ⟨rfl, rfl⟩
theorem subC : Statement .subC := ⟨rfl, rfl⟩
theorem subD : Statement .subD := ⟨rfl, rfl⟩
theorem subE : Statement .subE := ⟨rfl, rfl⟩
theorem subH : Statement .subH := ⟨rfl, rfl⟩
theorem subL : Statement .subL := ⟨rfl, rfl⟩
theorem subM : Statement .subM := ⟨rfl, rfl⟩
theorem subA : Statement .subA := ⟨rfl, rfl⟩
theorem sbbB : Statement .sbbB := ⟨rfl, rfl⟩
theorem sbbC : Statement .sbbC := ⟨rfl, rfl⟩
theorem sbbD : Statement .sbbD := ⟨rfl, rfl⟩
theorem sbbE : Statement .sbbE := ⟨rfl, rfl⟩
theorem sbbH : Statement .sbbH := ⟨rfl, rfl⟩
theorem sbbL : Statement .sbbL := ⟨rfl, rfl⟩
theorem sbbM : Statement .sbbM := ⟨rfl, rfl⟩
theorem sbbA : Statement .sbbA := ⟨rfl, rfl⟩
theorem anaB : Statement .anaB := ⟨rfl, rfl⟩
theorem anaC : Statement .anaC := ⟨rfl, rfl⟩
theorem anaD : Statement .anaD := ⟨rfl, rfl⟩
theorem anaE : Statement .anaE := ⟨rfl, rfl⟩
theorem anaH : Statement .anaH := ⟨rfl, rfl⟩
theorem anaL : Statement .anaL := ⟨rfl, rfl⟩
theorem anaM : Statement .anaM := ⟨rfl, rfl⟩
theorem anaA : Statement .anaA := ⟨rfl, rfl⟩
theorem xraB : Statement .xraB := ⟨rfl, rfl⟩
theorem xraC : Statement .xraC := ⟨rfl, rfl⟩
theorem xraD : Statement .xraD := ⟨rfl, rfl⟩
theorem xraE : Statement .xraE := ⟨rfl, rfl⟩
theorem xraH : Statement .xraH := ⟨rfl, rfl⟩
theorem xraL : Statement .xraL := ⟨rfl, rfl⟩
theorem xraM : Statement .xraM := ⟨rfl, rfl⟩
theorem xraA : Statement .xraA := ⟨rfl, rfl⟩
theorem oraB : Statement .oraB := ⟨rfl, rfl⟩
theorem oraC : Statement .oraC := ⟨rfl, rfl⟩
theorem oraD : Statement .oraD := ⟨rfl, rfl⟩
theorem oraE : Statement .oraE := ⟨rfl, rfl⟩
theorem oraH : Statement .oraH := ⟨rfl, rfl⟩
theorem oraL : Statement .oraL := ⟨rfl, rfl⟩
theorem oraM : Statement .oraM := ⟨rfl, rfl⟩
theorem oraA : Statement .oraA := ⟨rfl, rfl⟩
theorem cmpB : Statement .cmpB := ⟨rfl, rfl⟩
theorem cmpC : Statement .cmpC := ⟨rfl, rfl⟩
theorem cmpD : Statement .cmpD := ⟨rfl, rfl⟩
theorem cmpE : Statement .cmpE := ⟨rfl, rfl⟩
theorem cmpH : Statement .cmpH := ⟨rfl, rfl⟩
theorem cmpL : Statement .cmpL := ⟨rfl, rfl⟩
theorem cmpM : Statement .cmpM := ⟨rfl, rfl⟩
theorem cmpA : Statement .cmpA := ⟨rfl, rfl⟩
theorem rnz : Statement .rnz := ⟨rfl, rfl⟩
theorem popB : Statement .popB := ⟨rfl, rfl⟩
theorem jnz (w : Word) : Statement (.jnz w) := ⟨rfl, rfl⟩
theorem jmp (w : Word) : Statement (.jmp w) := ⟨rfl, rfl⟩
theorem cnz (w : Word) : Statement (.cnz w) := ⟨rfl, rfl⟩
theorem pushB : Statement .pushB := ⟨rfl, rfl⟩
theorem adi (v : Byte) : Statement (.adi v) := ⟨rfl, rfl⟩
theorem rst0 : Statement .rst0 := ⟨rfl, rfl⟩
theorem rz : Statement .rz := ⟨rfl, rfl⟩
theorem ret : Statement .ret := ⟨rfl, rfl⟩
theorem jz (w : Word) : Statement (.jz w) := ⟨rfl, rfl⟩
theorem nopCB : Statement .nopCB := ⟨rfl, rfl⟩
theorem cz (w : Word) : Statement (.cz w) := ⟨rfl, rfl⟩
theorem call (w : Word) : Statement (.call w) := ⟨rfl, rfl⟩
theorem aci (v : Byte) : Statement (.aci v) := ⟨rfl, rfl⟩
theorem rst1 : Statement .rst1 := ⟨rfl, rfl⟩
theorem rnc : Statement .rnc := ⟨rfl, rfl⟩
theorem popD : Statement .popD := ⟨rfl, rfl⟩
theorem jnc (w : Word) : Statement (.jnc w) := ⟨rfl, rfl⟩
theorem outPort (v : Byte) : Statement (.outPort v) := ⟨rfl, rfl⟩
theorem cnc (w : Word) : Statement (.cnc w) := ⟨rfl, rfl⟩
theorem pushD : Statement .pushD := ⟨rfl, rfl⟩
theorem sui (v : Byte) : Statement (.sui v) := ⟨rfl, rfl⟩
theorem rst2 : Statement .rst2 := ⟨rfl, rfl⟩
theorem rc : Statement .rc := ⟨rfl, rfl⟩
theorem nopD9 : Statement .nopD9 := ⟨rfl, rfl⟩
theorem jc (w : Word) : Statement (.jc w) := ⟨rfl, rfl⟩
theorem inPort (v : Byte) : Statement (.inPort v) := ⟨rfl, rfl⟩
theorem cc (w : Word) : Statement (.cc w) := ⟨rfl, rfl⟩
theorem nopDD : Statement .nopDD := ⟨rfl, rfl⟩
theorem sbi (v : Byte) : Statement (.sbi v) := ⟨rfl, rfl⟩
theorem rst3 : Statement .rst3 := ⟨rfl, rfl⟩
theorem rpo : Statement .rpo := ⟨rfl, rfl⟩
theorem popH : Statement .popH := ⟨rfl, rfl⟩
theorem jpo (w : Word) : Statement (.jpo w) := ⟨rfl, rfl⟩
theorem xthl : Statement .xthl := ⟨rfl, rfl⟩
theorem cpo (w : Word) : Statement (.cpo w) := ⟨rfl, rfl⟩
theorem pushH : Statement .pushH := ⟨rfl, rfl⟩
theorem ani (v : Byte) : Statement (.ani v) := ⟨rfl, rfl⟩
theorem rst4 : Statement .rst4 := ⟨rfl, rfl⟩
theorem rpe : Statement .rpe := ⟨rfl, rfl⟩
theorem pchl : Statement .pchl := ⟨rfl, rfl⟩
theorem jpe (w : Word) : Statement (.jpe w) := ⟨rfl, rfl⟩
theorem xchg : Statement .xchg := ⟨rfl, rfl⟩
theorem cpe (w : Word) : Statement (.cpe w) := ⟨rfl, rfl⟩
theorem nopED : Statement .nopED := ⟨rfl, rfl⟩
theorem xri (v : Byte) : Statement (.xri v) := ⟨rfl, rfl⟩
theorem rst5 : Statement .rst5 := ⟨rfl, rfl⟩
theorem rp : Statement .rp := ⟨rfl, rfl⟩
theorem popPsw : Statement .popPsw := ⟨rfl, rfl⟩
theorem jp (w : Word) : Statement (.jp w) := ⟨rfl, rfl⟩
theorem di : Statement .di := ⟨rfl, rfl⟩
theorem cp (w : Word) : Statement (.cp w) := ⟨rfl, rfl⟩
theorem pushPsw : Statement .pushPsw := ⟨rfl, rfl⟩
theorem ori (v : Byte) : Statement (.ori v) := ⟨rfl, rfl⟩
theorem rst6 : Statement .rst6 := ⟨rfl, rfl⟩
theorem rm : Statement .rm := ⟨rfl, rfl⟩
theorem sphl : Statement .sphl := ⟨rfl, rfl⟩
theorem jm (w : Word) : Statement (.jm w) := ⟨rfl, rfl⟩
theorem ei : Statement .ei := ⟨rfl, rfl⟩
theorem cm (w : Word) : Statement (.cm w) := ⟨rfl, rfl⟩
theorem nopFD : Statement .nopFD := ⟨rfl, rfl⟩
theorem cpi (v : Byte) : Statement (.cpi v) := ⟨rfl, rfl⟩
theorem rst7 : Statement .rst7 := ⟨rfl, rfl⟩

end Sys2Proof.Laws.Encoding
end

