-- ==== Sys2Proof/Laws/Step.lean ====
section
/-! SUPPORT. What one step can do, said once: a running core runs the instruction its bytes encode, with PC past them, and any
other core stays as it is. -/

namespace Sys2Proof.Machine

/-- The state an instruction's effect is applied to: PC past the instruction's bytes (R8, R24). -/
def State.past (s : State) (i : Instr) : State := { s with pc := s.pc + BitVec.ofNat 16 i.length }

/-- The bytes of `i` stand in memory from PC on. -/
def State.Holds (s : State) (i : Instr) : Prop :=
  ∀ k b, (encode i)[k]? = some b → s.mem.read (s.pc + BitVec.ofNat 16 k) = b

/-- The fetch finds an instruction, whose bytes stand at PC, and leaves PC past them. -/
theorem fetchInstr_spec (s : State) : ∃ i, s.fetchInstr = .instr i (s.past i) ∧ s.Holds i := by
  have hadd : s.pc + 1#16 + 1#16 = s.pc + 2#16 := by bv_omega
  have hadd3 : s.pc + 2#16 + 1#16 = s.pc + 3#16 := by bv_omega
  cases h : tableRow (s.mem.read s.pc) with
  | none => exact absurd h (tableRow_ne_none _)
  | some row =>
    cases row with
    | bare i =>
      have he := encode_bare h
      refine ⟨i, by simp [State.fetchInstr, State.fetch8, h, State.past, he.2], ?_⟩
      intro k b hk
      rw [he.1] at hk
      match k with
      | 0 => simpa using hk
      | k + 1 => simp at hk
    | imm8 f =>
      have he := encode_imm8 h (s.mem.read (s.pc + 1#16))
      refine ⟨f (s.mem.read (s.pc + 1#16)), by simp [State.fetchInstr, State.fetch8, h, State.past, he.2, hadd], ?_⟩
      intro k b hk
      rw [he.1] at hk
      match k with
      | 0 => simpa using hk
      | 1 => simpa using hk
      | k + 2 => simp at hk
    | imm16 f =>
      have he := encode_imm16 h (join (s.mem.read (s.pc + 2#16)) (s.mem.read (s.pc + 1#16)))
      refine ⟨f (join (s.mem.read (s.pc + 2#16)) (s.mem.read (s.pc + 1#16))),
        by simp [State.fetchInstr, State.fetch8, State.fetch16, h, State.past, he.2, hadd, hadd3], ?_⟩
      intro k b hk
      rw [he.1] at hk
      match k with
      | 0 => simpa using hk
      | 1 => simpa using hk
      | 2 => simpa using hk
      | k + 3 => simp at hk

/-- A core that is not running stays as it is. -/
theorem step_not_running {s : State} (h : s.run ≠ .running) : step s = .next s := by
  unfold step State.stepOnce
  cases hr : s.run <;> simp_all

/-- A running core runs one instruction, the one whose bytes stand at PC. -/
theorem step_running {s : State} (h : s.run = .running) :
    ∃ i, s.Holds i ∧ step s = .next ((s.past i).effect i.form) := by
  obtain ⟨i, hf, hb⟩ := fetchInstr_spec s
  exact ⟨i, hb, by simp [step, State.stepOnce, h, State.runInstruction, hf, exec_eq]⟩

end Sys2Proof.Machine
end

