-- ==== Sys2Proof/Tests/Slice0.lean ====
section
/-! SUPPORT. The tests: the well-formedness check, the decoding of every opcode byte written in bits from the fields of
30_encoding.md (R84 to R93), one step of the spec's own vectors (95_test_vectors.md), and a witness for the hypotheses of
every statement. -/

namespace Sys2Proof.Tests

open Sys2Proof Sys2Proof.Machine Sys2Proof.Claim

/-! ## Well-formedness: one ill-formed byte list for each answer of the check (R80, R83) -/

theorem test_check_refuses_no_opcode : checkBytes [] = .noOpcode := by decide

theorem test_check_refuses_missing_byte : checkBytes [0x3E#8] = .tooShort ∧ checkBytes [0xC3#8, 0x00#8] = .tooShort := by
  decide

theorem test_check_refuses_extra_byte :
    checkBytes [0x00#8, 0x00#8] = .tooLong ∧ checkBytes [0xC3#8, 0x00#8, 0x00#8, 0x00#8] = .tooLong := by
  decide

theorem test_check_accepts_each_length :
    checkBytes [0xCB#8] = .wellFormed ∧ checkBytes [0xDB#8, 0x01#8] = .wellFormed ∧
    checkBytes [0xCD#8, 0x34#8, 0x12#8] = .wellFormed := by
  decide

/-! ## Decoding: each opcode byte from the encoding fields of its row (R84 to R93), before the bytes 34 12 -/

/-- Each opcode byte, with 34 12 after it, decodes to the instruction beside it, and the bytes left over are as many as its
length leaves. -/
def decodesAll (rows : List (Byte × Instr)) : Bool :=
  rows.all fun r => decide (decode [r.1, 0x34#8, 0x12#8] = .instr r.2 ([0x34#8, 0x12#8].drop (r.2.length - 1)))


theorem test_decode_row_0 : decodesAll
    [(0b00000000#8, .nop), (0b00000001#8, .lxiB 0x1234#16), (0b00000010#8, .staxB), (0b00000011#8, .inxB),
      (0b00000100#8, .inrB), (0b00000101#8, .dcrB), (0b00000110#8, .mviB 0x34#8), (0b00000111#8, .rlc),
      (0b00001000#8, .nop08), (0b00001001#8, .dadB), (0b00001010#8, .ldaxB), (0b00001011#8, .dcxB),
      (0b00001100#8, .inrC), (0b00001101#8, .dcrC), (0b00001110#8, .mviC 0x34#8), (0b00001111#8, .rrc)] =
    true := by
  decide

theorem test_decode_row_1 : decodesAll
    [(0b00010000#8, .nop10), (0b00010001#8, .lxiD 0x1234#16), (0b00010010#8, .staxD), (0b00010011#8, .inxD),
      (0b00010100#8, .inrD), (0b00010101#8, .dcrD), (0b00010110#8, .mviD 0x34#8), (0b00010111#8, .ral),
      (0b00011000#8, .nop18), (0b00011001#8, .dadD), (0b00011010#8, .ldaxD), (0b00011011#8, .dcxD),
      (0b00011100#8, .inrE), (0b00011101#8, .dcrE), (0b00011110#8, .mviE 0x34#8), (0b00011111#8, .rar)] =
    true := by
  decide

theorem test_decode_row_2 : decodesAll
    [(0b00100000#8, .nop20), (0b00100001#8, .lxiH 0x1234#16), (0b00100010#8, .shld 0x1234#16), (0b00100011#8, .inxH),
      (0b00100100#8, .inrH), (0b00100101#8, .dcrH), (0b00100110#8, .mviH 0x34#8), (0b00100111#8, .daa),
      (0b00101000#8, .nop28), (0b00101001#8, .dadH), (0b00101010#8, .lhld 0x1234#16), (0b00101011#8, .dcxH),
      (0b00101100#8, .inrL), (0b00101101#8, .dcrL), (0b00101110#8, .mviL 0x34#8), (0b00101111#8, .cma)] =
    true := by
  decide

theorem test_decode_row_3 : decodesAll
    [(0b00110000#8, .nop30), (0b00110001#8, .lxiSp 0x1234#16), (0b00110010#8, .sta 0x1234#16), (0b00110011#8, .inxSp),
      (0b00110100#8, .inrM), (0b00110101#8, .dcrM), (0b00110110#8, .mviM 0x34#8), (0b00110111#8, .stc),
      (0b00111000#8, .nop38), (0b00111001#8, .dadSp), (0b00111010#8, .lda 0x1234#16), (0b00111011#8, .dcxSp),
      (0b00111100#8, .inrA), (0b00111101#8, .dcrA), (0b00111110#8, .mviA 0x34#8), (0b00111111#8, .cmc)] =
    true := by
  decide

theorem test_decode_row_4 : decodesAll
    [(0b01000000#8, .movBB), (0b01000001#8, .movBC), (0b01000010#8, .movBD), (0b01000011#8, .movBE),
      (0b01000100#8, .movBH), (0b01000101#8, .movBL), (0b01000110#8, .movBM), (0b01000111#8, .movBA),
      (0b01001000#8, .movCB), (0b01001001#8, .movCC), (0b01001010#8, .movCD), (0b01001011#8, .movCE),
      (0b01001100#8, .movCH), (0b01001101#8, .movCL), (0b01001110#8, .movCM), (0b01001111#8, .movCA)] =
    true := by
  decide

theorem test_decode_row_5 : decodesAll
    [(0b01010000#8, .movDB), (0b01010001#8, .movDC), (0b01010010#8, .movDD), (0b01010011#8, .movDE),
      (0b01010100#8, .movDH), (0b01010101#8, .movDL), (0b01010110#8, .movDM), (0b01010111#8, .movDA),
      (0b01011000#8, .movEB), (0b01011001#8, .movEC), (0b01011010#8, .movED), (0b01011011#8, .movEE),
      (0b01011100#8, .movEH), (0b01011101#8, .movEL), (0b01011110#8, .movEM), (0b01011111#8, .movEA)] =
    true := by
  decide

theorem test_decode_row_6 : decodesAll
    [(0b01100000#8, .movHB), (0b01100001#8, .movHC), (0b01100010#8, .movHD), (0b01100011#8, .movHE),
      (0b01100100#8, .movHH), (0b01100101#8, .movHL), (0b01100110#8, .movHM), (0b01100111#8, .movHA),
      (0b01101000#8, .movLB), (0b01101001#8, .movLC), (0b01101010#8, .movLD), (0b01101011#8, .movLE),
      (0b01101100#8, .movLH), (0b01101101#8, .movLL), (0b01101110#8, .movLM), (0b01101111#8, .movLA)] =
    true := by
  decide

theorem test_decode_row_7 : decodesAll
    [(0b01110000#8, .movMB), (0b01110001#8, .movMC), (0b01110010#8, .movMD), (0b01110011#8, .movME),
      (0b01110100#8, .movMH), (0b01110101#8, .movML), (0b01110110#8, .hlt), (0b01110111#8, .movMA),
      (0b01111000#8, .movAB), (0b01111001#8, .movAC), (0b01111010#8, .movAD), (0b01111011#8, .movAE),
      (0b01111100#8, .movAH), (0b01111101#8, .movAL), (0b01111110#8, .movAM), (0b01111111#8, .movAA)] =
    true := by
  decide

theorem test_decode_row_8 : decodesAll
    [(0b10000000#8, .addB), (0b10000001#8, .addC), (0b10000010#8, .addD), (0b10000011#8, .addE),
      (0b10000100#8, .addH), (0b10000101#8, .addL), (0b10000110#8, .addM), (0b10000111#8, .addA),
      (0b10001000#8, .adcB), (0b10001001#8, .adcC), (0b10001010#8, .adcD), (0b10001011#8, .adcE),
      (0b10001100#8, .adcH), (0b10001101#8, .adcL), (0b10001110#8, .adcM), (0b10001111#8, .adcA)] =
    true := by
  decide

theorem test_decode_row_9 : decodesAll
    [(0b10010000#8, .subB), (0b10010001#8, .subC), (0b10010010#8, .subD), (0b10010011#8, .subE),
      (0b10010100#8, .subH), (0b10010101#8, .subL), (0b10010110#8, .subM), (0b10010111#8, .subA),
      (0b10011000#8, .sbbB), (0b10011001#8, .sbbC), (0b10011010#8, .sbbD), (0b10011011#8, .sbbE),
      (0b10011100#8, .sbbH), (0b10011101#8, .sbbL), (0b10011110#8, .sbbM), (0b10011111#8, .sbbA)] =
    true := by
  decide

theorem test_decode_row_a : decodesAll
    [(0b10100000#8, .anaB), (0b10100001#8, .anaC), (0b10100010#8, .anaD), (0b10100011#8, .anaE),
      (0b10100100#8, .anaH), (0b10100101#8, .anaL), (0b10100110#8, .anaM), (0b10100111#8, .anaA),
      (0b10101000#8, .xraB), (0b10101001#8, .xraC), (0b10101010#8, .xraD), (0b10101011#8, .xraE),
      (0b10101100#8, .xraH), (0b10101101#8, .xraL), (0b10101110#8, .xraM), (0b10101111#8, .xraA)] =
    true := by
  decide

theorem test_decode_row_b : decodesAll
    [(0b10110000#8, .oraB), (0b10110001#8, .oraC), (0b10110010#8, .oraD), (0b10110011#8, .oraE),
      (0b10110100#8, .oraH), (0b10110101#8, .oraL), (0b10110110#8, .oraM), (0b10110111#8, .oraA),
      (0b10111000#8, .cmpB), (0b10111001#8, .cmpC), (0b10111010#8, .cmpD), (0b10111011#8, .cmpE),
      (0b10111100#8, .cmpH), (0b10111101#8, .cmpL), (0b10111110#8, .cmpM), (0b10111111#8, .cmpA)] =
    true := by
  decide

theorem test_decode_row_c : decodesAll
    [(0b11000000#8, .rnz), (0b11000001#8, .popB), (0b11000010#8, .jnz 0x1234#16), (0b11000011#8, .jmp 0x1234#16),
      (0b11000100#8, .cnz 0x1234#16), (0b11000101#8, .pushB), (0b11000110#8, .adi 0x34#8), (0b11000111#8, .rst0),
      (0b11001000#8, .rz), (0b11001001#8, .ret), (0b11001010#8, .jz 0x1234#16), (0b11001011#8, .nopCB),
      (0b11001100#8, .cz 0x1234#16), (0b11001101#8, .call 0x1234#16), (0b11001110#8, .aci 0x34#8), (0b11001111#8, .rst1)] =
    true := by
  decide

theorem test_decode_row_d : decodesAll
    [(0b11010000#8, .rnc), (0b11010001#8, .popD), (0b11010010#8, .jnc 0x1234#16), (0b11010011#8, .outPort 0x34#8),
      (0b11010100#8, .cnc 0x1234#16), (0b11010101#8, .pushD), (0b11010110#8, .sui 0x34#8), (0b11010111#8, .rst2),
      (0b11011000#8, .rc), (0b11011001#8, .nopD9), (0b11011010#8, .jc 0x1234#16), (0b11011011#8, .inPort 0x34#8),
      (0b11011100#8, .cc 0x1234#16), (0b11011101#8, .nopDD), (0b11011110#8, .sbi 0x34#8), (0b11011111#8, .rst3)] =
    true := by
  decide

theorem test_decode_row_e : decodesAll
    [(0b11100000#8, .rpo), (0b11100001#8, .popH), (0b11100010#8, .jpo 0x1234#16), (0b11100011#8, .xthl),
      (0b11100100#8, .cpo 0x1234#16), (0b11100101#8, .pushH), (0b11100110#8, .ani 0x34#8), (0b11100111#8, .rst4),
      (0b11101000#8, .rpe), (0b11101001#8, .pchl), (0b11101010#8, .jpe 0x1234#16), (0b11101011#8, .xchg),
      (0b11101100#8, .cpe 0x1234#16), (0b11101101#8, .nopED), (0b11101110#8, .xri 0x34#8), (0b11101111#8, .rst5)] =
    true := by
  decide

theorem test_decode_row_f : decodesAll
    [(0b11110000#8, .rp), (0b11110001#8, .popPsw), (0b11110010#8, .jp 0x1234#16), (0b11110011#8, .di),
      (0b11110100#8, .cp 0x1234#16), (0b11110101#8, .pushPsw), (0b11110110#8, .ori 0x34#8), (0b11110111#8, .rst6),
      (0b11111000#8, .rm), (0b11111001#8, .sphl), (0b11111010#8, .jm 0x1234#16), (0b11111011#8, .ei),
      (0b11111100#8, .cm 0x1234#16), (0b11111101#8, .nopFD), (0b11111110#8, .cpi 0x34#8), (0b11111111#8, .rst7)] =
    true := by
  decide

/-- The table's numbering of bits: the second byte of `MVI A,5A` is bits 15..8, of `JMP 1234` bits 23..8, and the bits above
`nbits` are zero. -/
theorem test_table_word : decodeTableWord 16 0x5A3E = some (.mviA 0x5A#8) ∧
    decodeTableWord 24 0x1234C3 = some (.jmp 0x1234#16) ∧ decodeTableWord 8 0xFFFF3E = some (.mviA 0x00#8) := by
  decide

/-- `withFetchWord` makes the next step run that instruction, straight after reset. -/
theorem test_fetch_word : step (State.reset.withFetchWord 16 0x5A3E) =
    .next { State.reset.withFetchWord 16 0x5A3E with a := 0x5A#8, pc := 0x0002#16 } := by
  rfl

/-! ## One step: vectors of 95_test_vectors.md, by their numbers there -/

/-- The state a vector starts from: every piece the vector does not name is zero, and the core runs. -/
def start : State := State.reset

/-- The five flags: S, Z, AC, P, CY. -/
def five (s z ac p cy : Bool) : Flags := { s := s, z := z, ac := ac, p := p, cy := cy }

/-- Bytes written to addresses. -/
def writes (m : Memory) (ws : List (Word × Byte)) : Memory := ws.foldl (fun n w => n.write w.1 w.2) m

/-- A memory with these bytes and zeros elsewhere. -/
def memory (ws : List (Word × Byte)) : Memory := writes [] ws

/-- `s` with `bytes` at its PC. -/
def placed (bytes : List Byte) (s : State) : State := { s with mem := s.mem.writeBytes s.pc bytes }

/-- One step from `s` with `bytes` at its PC answers exactly the state `after` of it. -/
def runs (bytes : List Byte) (s : State) (after : State → State) : Bool :=
  match step (placed bytes s) with
  | .next u => decide (u = after (placed bytes s))
  | .fault _ => false
  | .refused _ => false

/-- An interrupt request at a boundary answers exactly the state `after` of it. -/
def interrupted (n : BitVec 3) (s : State) (after : State → State) : Bool :=
  decide (s.interruptRequest n = after s)

/-- `MOV B,C` -/
theorem test_v_dt_01 :
    runs [0x41#8]
    { start with c := 0x5A#8, pc := 0x0100#16 }
    (fun s => { s with b := 0x5A#8, pc := 0x0101#16 }) = true := by
  decide

/-- `MOV E,M` -/
theorem test_v_dt_03 :
    runs [0x5E#8]
    { start with h := 0x2B#8, l := 0x10#8, pc := 0x0100#16, mem := memory [(0x2B10#16, 0xC3#8)] }
    (fun s => { s with e := 0xC3#8, pc := 0x0101#16 }) = true := by
  decide

/-- `MOV M,A` -/
theorem test_v_dt_04 :
    runs [0x77#8]
    { start with a := 0x99#8, h := 0x2B#8, l := 0x10#8, pc := 0x0100#16 }
    (fun s => { s with pc := 0x0101#16, mem := writes s.mem [(0x2B10#16, 0x99#8)] }) = true := by
  decide

/-- `MOV M,H` -/
theorem test_v_dt_05 :
    runs [0x74#8]
    { start with h := 0x2B#8, l := 0x10#8, pc := 0x0100#16 }
    (fun s => { s with pc := 0x0101#16, mem := writes s.mem [(0x2B10#16, 0x2B#8)] }) = true := by
  decide

/-- `MOV L,M` -/
theorem test_v_dt_06 :
    runs [0x6E#8]
    { start with h := 0x2B#8, l := 0x10#8, pc := 0x0100#16, mem := memory [(0x2B10#16, 0x44#8)] }
    (fun s => { s with l := 0x44#8, pc := 0x0101#16 }) = true := by
  decide

/-- `MVI H,3Ch` -/
theorem test_v_dt_07 :
    runs [0x26#8, 0x3C#8]
    { start with pc := 0x0100#16 }
    (fun s => { s with h := 0x3C#8, pc := 0x0102#16 }) = true := by
  decide

/-- `MVI M,0FFh` -/
theorem test_v_dt_08 :
    runs [0x36#8, 0xFF#8]
    { start with h := 0x23#8, l := 0xE8#8, pc := 0x0100#16 }
    (fun s => { s with pc := 0x0102#16, mem := writes s.mem [(0x23E8#16, 0xFF#8)] }) = true := by
  decide

/-- `LXI H,0103h` -/
theorem test_v_dt_09 :
    runs [0x21#8, 0x03#8, 0x01#8]
    { start with pc := 0x0100#16 }
    (fun s => { s with h := 0x01#8, l := 0x03#8, pc := 0x0103#16 }) = true := by
  decide

/-- `LXI SP,2400h` -/
theorem test_v_dt_10 :
    runs [0x31#8, 0x00#8, 0x24#8]
    { start with pc := 0x0100#16 }
    (fun s => { s with sp := 0x2400#16, pc := 0x0103#16 }) = true := by
  decide

/-- `LDA 0300h` -/
theorem test_v_dt_12 :
    runs [0x3A#8, 0x00#8, 0x03#8]
    { start with pc := 0x0100#16, mem := memory [(0x0300#16, 0x5E#8)] }
    (fun s => { s with a := 0x5E#8, pc := 0x0103#16 }) = true := by
  decide

/-- `STA 05B3h` -/
theorem test_v_dt_13 :
    runs [0x32#8, 0xB3#8, 0x05#8]
    { start with a := 0xA7#8, pc := 0x0100#16 }
    (fun s => { s with pc := 0x0103#16, mem := writes s.mem [(0x05B3#16, 0xA7#8)] }) = true := by
  decide

/-- `LHLD 025Bh` -/
theorem test_v_dt_14 :
    runs [0x2A#8, 0x5B#8, 0x02#8]
    { start with pc := 0x0100#16, mem := memory [(0x025B#16, 0xFF#8), (0x025C#16, 0x03#8)] }
    (fun s => { s with h := 0x03#8, l := 0xFF#8, pc := 0x0103#16 }) = true := by
  decide

/-- `SHLD 0FFFFh` -/
theorem test_v_dt_16 :
    runs [0x22#8, 0xFF#8, 0xFF#8]
    { start with h := 0x12#8, l := 0x34#8, pc := 0x0100#16 }
    (fun s => { s with pc := 0x0103#16, mem := writes s.mem [(0x0000#16, 0x12#8), (0xFFFF#16, 0x34#8)] }) = true := by
  decide

/-- `LDAX D` -/
theorem test_v_dt_18 :
    runs [0x1A#8]
    { start with d := 0x93#8, e := 0x8B#8, pc := 0x0100#16, mem := memory [(0x938B#16, 0x7E#8)] }
    (fun s => { s with a := 0x7E#8, pc := 0x0101#16 }) = true := by
  decide

/-- `STAX B` -/
theorem test_v_dt_20 :
    runs [0x02#8]
    { start with a := 0x42#8, b := 0x3F#8, c := 0x16#8, pc := 0x0100#16 }
    (fun s => { s with pc := 0x0101#16, mem := writes s.mem [(0x3F16#16, 0x42#8)] }) = true := by
  decide

/-- `XCHG` -/
theorem test_v_dt_22 :
    runs [0xEB#8]
    { start with d := 0x33#8, e := 0x55#8, h := 0x00#8, l := 0xFF#8, pc := 0x0100#16 }
    (fun s => { s with d := 0x00#8, e := 0xFF#8, h := 0x33#8, l := 0x55#8, pc := 0x0101#16 }) = true := by
  decide

/-- `ADD D` -/
theorem test_v_ar_01 :
    runs [0x82#8]
    { start with a := 0x6C#8, d := 0x2E#8, pc := 0x0100#16 }
    (fun s => { s with a := 0x9A#8, flags := five true false true true false, pc := 0x0101#16 }) = true := by
  decide

/-- `ADD B` -/
theorem test_v_ar_03 :
    runs [0x80#8]
    { start with a := 0x80#8, b := 0x80#8, pc := 0x0100#16 }
    (fun s => { s with a := 0x00#8, flags := five false true false true true, pc := 0x0101#16 }) = true := by
  decide

/-- `ADD M` -/
theorem test_v_ar_05 :
    runs [0x86#8]
    { start with a := 0x0F#8, h := 0x20#8, l := 0x00#8, pc := 0x0100#16, mem := memory [(0x2000#16, 0x01#8)] }
    (fun s => { s with a := 0x10#8, flags := five false false true false false, pc := 0x0101#16 }) = true := by
  decide

/-- `ADI 42h` -/
theorem test_v_ar_06 :
    runs [0xC6#8, 0x42#8]
    { start with a := 0x14#8, pc := 0x0100#16 }
    (fun s => { s with a := 0x56#8, flags := five false false false true false, pc := 0x0102#16 }) = true := by
  decide

/-- `ADC C` -/
theorem test_v_ar_09 :
    runs [0x89#8]
    { start with a := 0x42#8, c := 0x3D#8, flags := five false false false false true, pc := 0x0100#16 }
    (fun s => { s with a := 0x80#8, flags := five true false true false false, pc := 0x0101#16 }) = true := by
  decide

/-- `ACI 0Fh` -/
theorem test_v_ar_11 :
    runs [0xCE#8, 0x0F#8]
    { start with a := 0xF0#8, flags := five false false false false true, pc := 0x0100#16 }
    (fun s => { s with a := 0x00#8, flags := five false true true true true, pc := 0x0102#16 }) = true := by
  decide

/-- `ADC M` -/
theorem test_v_ar_12 :
    runs [0x8E#8]
    { start with a := 0x42#8, h := 0x20#8, l := 0x00#8, flags := five false false false false true, pc := 0x0100#16,
                 mem := memory [(0x2000#16, 0x3D#8)] }
    (fun s => { s with a := 0x80#8, flags := five true false true false false, pc := 0x0101#16 }) = true := by
  decide

/-- `SUB B` -/
theorem test_v_ar_15 :
    runs [0x90#8]
    { start with a := 0x03#8, b := 0x05#8, pc := 0x0100#16 }
    (fun s => { s with a := 0xFE#8, flags := five true false false false true, pc := 0x0101#16 }) = true := by
  decide

/-- `SUI 01h` -/
theorem test_v_ar_16 :
    runs [0xD6#8, 0x01#8]
    { start with a := 0x00#8, pc := 0x0100#16 }
    (fun s => { s with a := 0xFF#8, flags := five true false false true true, pc := 0x0102#16 }) = true := by
  decide

/-- `SUB B` -/
theorem test_v_ar_17 :
    runs [0x90#8]
    { start with a := 0x10#8, b := 0x01#8, pc := 0x0100#16 }
    (fun s => { s with a := 0x0F#8, flags := five false false false true false, pc := 0x0101#16 }) = true := by
  decide

/-- `SUB M` -/
theorem test_v_ar_18 :
    runs [0x96#8]
    { start with a := 0x05#8, h := 0x20#8, l := 0x00#8, pc := 0x0100#16, mem := memory [(0x2000#16, 0x03#8)] }
    (fun s => { s with a := 0x02#8, flags := five false false true false false, pc := 0x0101#16 }) = true := by
  decide

/-- `SBB B` -/
theorem test_v_ar_20 :
    runs [0x98#8]
    { start with a := 0x00#8, b := 0xFF#8, flags := five false false false false true, pc := 0x0100#16 }
    (fun s => { s with flags := five false true false true true, pc := 0x0101#16 }) = true := by
  decide

/-- `SBI 01h` -/
theorem test_v_ar_23 :
    runs [0xDE#8, 0x01#8]
    { start with a := 0x00#8, flags := five false false false false true, pc := 0x0100#16 }
    (fun s => { s with a := 0xFE#8, flags := five true false false false true, pc := 0x0102#16 }) = true := by
  decide

/-- `SBB M` -/
theorem test_v_ar_24 :
    runs [0x9E#8]
    { start with a := 0x04#8, h := 0x20#8, l := 0x00#8, flags := five false false false false true, pc := 0x0100#16,
                 mem := memory [(0x2000#16, 0x02#8)] }
    (fun s => { s with a := 0x01#8, flags := five false false true false false, pc := 0x0101#16 }) = true := by
  decide

/-- `INR C` -/
theorem test_v_ar_26 :
    runs [0x0C#8]
    { start with c := 0x99#8, flags := five false false false false true, pc := 0x0100#16 }
    (fun s => { s with c := 0x9A#8, flags := five true false false true true, pc := 0x0101#16 }) = true := by
  decide

/-- `INR B` -/
theorem test_v_ar_29 :
    runs [0x04#8]
    { start with b := 0x7F#8, pc := 0x0100#16 }
    (fun s => { s with b := 0x80#8, flags := five true false true false false, pc := 0x0101#16 }) = true := by
  decide

/-- `INR M` -/
theorem test_v_ar_30 :
    runs [0x34#8]
    { start with h := 0x20#8, l := 0x00#8, flags := five false false false false true, pc := 0x0100#16,
                 mem := memory [(0x2000#16, 0xFF#8)] }
    (fun s => { s with flags := five false true true true true, pc := 0x0101#16, mem := writes s.mem [(0x2000#16,
                       0x00#8)] }) = true := by
  decide

/-- `DCR B` -/
theorem test_v_ar_31 :
    runs [0x05#8]
    { start with b := 0x00#8, pc := 0x0100#16 }
    (fun s => { s with b := 0xFF#8, flags := five true false false true false, pc := 0x0101#16 }) = true := by
  decide

/-- `DCR B` -/
theorem test_v_ar_33 :
    runs [0x05#8]
    { start with b := 0x10#8, pc := 0x0100#16 }
    (fun s => { s with b := 0x0F#8, flags := five false false false true false, pc := 0x0101#16 }) = true := by
  decide

/-- `DCR M` -/
theorem test_v_ar_35 :
    runs [0x35#8]
    { start with h := 0x3A#8, l := 0x7C#8, pc := 0x0100#16, mem := memory [(0x3A7C#16, 0x40#8)] }
    (fun s => { s with flags := five false false false true false, pc := 0x0101#16, mem := writes s.mem [(0x3A7C#16,
                       0x3F#8)] }) = true := by
  decide

/-- `DAA` -/
theorem test_v_ar_41 :
    runs [0x27#8]
    { start with a := 0x9A#8, pc := 0x0100#16 }
    (fun s => { s with a := 0x00#8, flags := five false true true true true, pc := 0x0101#16 }) = true := by
  decide

/-- `DAA` -/
theorem test_v_ar_42 :
    runs [0x27#8]
    { start with a := 0x00#8, flags := five false false true false true, pc := 0x0100#16 }
    (fun s => { s with a := 0x66#8, flags := five false false false true true, pc := 0x0101#16 }) = true := by
  decide

/-- `DAD B` -/
theorem test_v_ar_47 :
    runs [0x09#8]
    { start with b := 0x33#8, c := 0x9F#8, h := 0xA1#8, l := 0x7B#8, pc := 0x0100#16 }
    (fun s => { s with h := 0xD5#8, l := 0x1A#8, flags := five false false false false false,
                       pc := 0x0101#16 }) = true := by
  decide

/-- `DAD H` -/
theorem test_v_ar_48 :
    runs [0x29#8]
    { start with h := 0x80#8, l := 0x00#8, pc := 0x0100#16 }
    (fun s => { s with h := 0x00#8, flags := five false false false false true, pc := 0x0101#16 }) = true := by
  decide

/-- `INX D` -/
theorem test_v_ar_51 :
    runs [0x13#8]
    { start with d := 0x38#8, e := 0xFF#8, pc := 0x0100#16 }
    (fun s => { s with d := 0x39#8, e := 0x00#8, flags := five false false false false false,
                       pc := 0x0101#16 }) = true := by
  decide

/-- `INX H` -/
theorem test_v_ar_53 :
    runs [0x23#8]
    { start with h := 0xFF#8, l := 0xFF#8, pc := 0x0100#16 }
    (fun s => { s with h := 0x00#8, l := 0x00#8, flags := five false false false false false,
                       pc := 0x0101#16 }) = true := by
  decide

/-- `DCX H` -/
theorem test_v_ar_54 :
    runs [0x2B#8]
    { start with h := 0x98#8, l := 0x00#8, pc := 0x0100#16 }
    (fun s => { s with h := 0x97#8, l := 0xFF#8, flags := five false false false false false,
                       pc := 0x0101#16 }) = true := by
  decide

/-- `ANA C` -/
theorem test_v_lg_01 :
    runs [0xA1#8]
    { start with a := 0xFC#8, c := 0x0F#8, flags := five false false true false true, pc := 0x0100#16 }
    (fun s => { s with a := 0x0C#8, flags := five false false false true false, pc := 0x0101#16 }) = true := by
  decide

/-- `ANI 0Fh` -/
theorem test_v_lg_02 :
    runs [0xE6#8, 0x0F#8]
    { start with a := 0x3A#8, pc := 0x0100#16 }
    (fun s => { s with a := 0x0A#8, flags := five false false false true false, pc := 0x0102#16 }) = true := by
  decide

/-- `ANA B` -/
theorem test_v_lg_05 :
    runs [0xA0#8]
    { start with a := 0x08#8, b := 0x08#8, pc := 0x0100#16 }
    (fun s => { s with flags := five false false false false false, pc := 0x0101#16 }) = true := by
  decide

/-- `XRA A` -/
theorem test_v_lg_06 :
    runs [0xAF#8]
    { start with a := 0x5C#8, flags := five false false true false true, pc := 0x0100#16 }
    (fun s => { s with a := 0x00#8, flags := five false true false true false, pc := 0x0101#16 }) = true := by
  decide

/-- `XRI 81h` -/
theorem test_v_lg_08 :
    runs [0xEE#8, 0x81#8]
    { start with a := 0x3B#8, pc := 0x0100#16 }
    (fun s => { s with a := 0xBA#8, flags := five true false false false false, pc := 0x0102#16 }) = true := by
  decide

/-- `XRA M` -/
theorem test_v_lg_09 :
    runs [0xAE#8]
    { start with a := 0xFF#8, h := 0x20#8, l := 0x00#8, pc := 0x0100#16, mem := memory [(0x2000#16, 0x0F#8)] }
    (fun s => { s with a := 0xF0#8, flags := five true false false true false, pc := 0x0101#16 }) = true := by
  decide

/-- `ORI 0Fh` -/
theorem test_v_lg_11 :
    runs [0xF6#8, 0x0F#8]
    { start with a := 0xB5#8, pc := 0x0100#16 }
    (fun s => { s with a := 0xBF#8, flags := five true false false false false, pc := 0x0102#16 }) = true := by
  decide

/-- `ORA M` -/
theorem test_v_lg_13 :
    runs [0xB6#8]
    { start with a := 0x33#8, h := 0x20#8, l := 0x00#8, pc := 0x0100#16, mem := memory [(0x2000#16, 0x0F#8)] }
    (fun s => { s with a := 0x3F#8, flags := five false false false true false, pc := 0x0101#16 }) = true := by
  decide

/-- `CMP E` -/
theorem test_v_lg_15 :
    runs [0xBB#8]
    { start with a := 0x02#8, e := 0x05#8, pc := 0x0100#16 }
    (fun s => { s with flags := five true false false false true, pc := 0x0101#16 }) = true := by
  decide

/-- `CPI 40h` -/
theorem test_v_lg_18 :
    runs [0xFE#8, 0x40#8]
    { start with a := 0x4A#8, pc := 0x0100#16 }
    (fun s => { s with flags := five false false true true false, pc := 0x0102#16 }) = true := by
  decide

/-- `CMP M` -/
theorem test_v_lg_20 :
    runs [0xBE#8]
    { start with a := 0x0A#8, h := 0x20#8, l := 0x00#8, pc := 0x0100#16, mem := memory [(0x2000#16, 0x05#8)] }
    (fun s => { s with flags := five false false true true false, pc := 0x0101#16 }) = true := by
  decide

/-- `RLC` -/
theorem test_v_lg_22 :
    runs [0x07#8]
    { start with a := 0x00#8, flags := five false false false false true, pc := 0x0100#16 }
    (fun s => { s with flags := five false false false false false, pc := 0x0101#16 }) = true := by
  decide

/-- `RRC` -/
theorem test_v_lg_23 :
    runs [0x0F#8]
    { start with a := 0xF2#8, pc := 0x0100#16 }
    (fun s => { s with a := 0x79#8, flags := five false false false false false, pc := 0x0101#16 }) = true := by
  decide

/-- `RRC` -/
theorem test_v_lg_24 :
    runs [0x0F#8]
    { start with a := 0x01#8, pc := 0x0100#16 }
    (fun s => { s with a := 0x80#8, flags := five false false false false true, pc := 0x0101#16 }) = true := by
  decide

/-- `RAL` -/
theorem test_v_lg_25 :
    runs [0x17#8]
    { start with a := 0xB5#8, flags := five false false false false false, pc := 0x0100#16 }
    (fun s => { s with a := 0x6A#8, flags := five false false false false true, pc := 0x0101#16 }) = true := by
  decide

/-- `RAL` -/
theorem test_v_lg_26 :
    runs [0x17#8]
    { start with a := 0x00#8, flags := five false false false false true, pc := 0x0100#16 }
    (fun s => { s with a := 0x01#8, flags := five false false false false false, pc := 0x0101#16 }) = true := by
  decide

/-- `RAR` -/
theorem test_v_lg_27 :
    runs [0x1F#8]
    { start with a := 0x6A#8, flags := five false false false false true, pc := 0x0100#16 }
    (fun s => { s with a := 0xB5#8, flags := five false false false false false, pc := 0x0101#16 }) = true := by
  decide

/-- `RAR` -/
theorem test_v_lg_28 :
    runs [0x1F#8]
    { start with a := 0x01#8, flags := five false false false false false, pc := 0x0100#16 }
    (fun s => { s with a := 0x00#8, flags := five false false false false true, pc := 0x0101#16 }) = true := by
  decide

/-- `CMA` -/
theorem test_v_lg_29 :
    runs [0x2F#8]
    { start with a := 0x51#8, pc := 0x0100#16 }
    (fun s => { s with a := 0xAE#8, flags := five false false false false false, pc := 0x0101#16 }) = true := by
  decide

/-- `CMC` -/
theorem test_v_lg_30 :
    runs [0x3F#8]
    { start with flags := five false false false false true, pc := 0x0100#16 }
    (fun s => { s with flags := five false false false false false, pc := 0x0101#16 }) = true := by
  decide

/-- `PUSH PSW` -/
theorem test_v_st_02 :
    runs [0xF5#8]
    { start with a := 0x1F#8, sp := 0x502A#16, flags := five false true false true true, pc := 0x0100#16 }
    (fun s => { s with sp := 0x5028#16, pc := 0x0101#16, mem := writes s.mem [(0x5028#16, 0x47#8), (0x5029#16,
                       0x1F#8)] }) = true := by
  decide

/-- `PUSH PSW` -/
theorem test_v_st_04 :
    runs [0xF5#8]
    { start with a := 0xFF#8, sp := 0x2400#16, flags := five true true true true true, pc := 0x0100#16 }
    (fun s => { s with sp := 0x23FE#16, pc := 0x0101#16, mem := writes s.mem [(0x23FE#16, 0xD7#8), (0x23FF#16,
                       0xFF#8)] }) = true := by
  decide

/-- `PUSH B` -/
theorem test_v_st_05 :
    runs [0xC5#8]
    { start with b := 0x12#8, c := 0x34#8, sp := 0x0000#16, pc := 0x0100#16 }
    (fun s => { s with sp := 0xFFFE#16, pc := 0x0101#16, mem := writes s.mem [(0xFFFE#16, 0x34#8), (0xFFFF#16,
                       0x12#8)] }) = true := by
  decide

/-- `POP H` -/
theorem test_v_st_07 :
    runs [0xE1#8]
    { start with sp := 0x1239#16, pc := 0x0100#16, mem := memory [(0x1239#16, 0x3D#8), (0x123A#16, 0x93#8)] }
    (fun s => { s with h := 0x93#8, l := 0x3D#8, sp := 0x123B#16, pc := 0x0101#16 }) = true := by
  decide

/-- `POP PSW` -/
theorem test_v_st_08 :
    runs [0xF1#8]
    { start with sp := 0x2C00#16, pc := 0x0100#16, mem := memory [(0x2C00#16, 0xC3#8), (0x2C01#16, 0xFF#8)] }
    (fun s => { s with a := 0xFF#8, sp := 0x2C02#16, flags := five true true false false true,
                       pc := 0x0101#16 }) = true := by
  decide

/-- `POP PSW` -/
theorem test_v_st_10 :
    runs [0xF1#8]
    { start with sp := 0x2C00#16, flags := five true true true true true, pc := 0x0100#16, mem := memory [(0x2C00#16,
                 0x28#8), (0x2C01#16, 0x34#8)] }
    (fun s => { s with a := 0x34#8, sp := 0x2C02#16, flags := five false false false false false,
                       pc := 0x0101#16 }) = true := by
  decide

/-- `POP B` -/
theorem test_v_st_11 :
    runs [0xC1#8]
    { start with sp := 0xFFFF#16, pc := 0x0100#16, mem := memory [(0x0000#16, 0x22#8), (0xFFFF#16, 0x11#8)] }
    (fun s => { s with b := 0x22#8, c := 0x11#8, sp := 0x0001#16, pc := 0x0101#16 }) = true := by
  decide

/-- `SPHL` -/
theorem test_v_st_13 :
    runs [0xF9#8]
    { start with h := 0x50#8, l := 0x6C#8, pc := 0x0100#16 }
    (fun s => { s with sp := 0x506C#16, pc := 0x0101#16 }) = true := by
  decide

/-- `JMP 3E00h` -/
theorem test_v_cf_01 :
    runs [0xC3#8, 0x00#8, 0x3E#8]
    { start with pc := 0x0100#16 }
    (fun s => { s with pc := 0x3E00#16 }) = true := by
  decide

/-- `JNZ 2000h` -/
theorem test_v_cf_02 :
    runs [0xC2#8, 0x00#8, 0x20#8]
    { start with flags := five false false false false false, pc := 0x0100#16 }
    (fun s => { s with pc := 0x2000#16 }) = true := by
  decide

/-- `JZ 2000h` -/
theorem test_v_cf_05 :
    runs [0xCA#8, 0x00#8, 0x20#8]
    { start with flags := five false false false false false, pc := 0x0100#16 }
    (fun s => { s with pc := 0x0103#16 }) = true := by
  decide

/-- `JC 2000h` -/
theorem test_v_cf_09 :
    runs [0xDA#8, 0x00#8, 0x20#8]
    { start with flags := five false false false false false, pc := 0x0100#16 }
    (fun s => { s with pc := 0x0103#16 }) = true := by
  decide

/-- `JPE 2000h` -/
theorem test_v_cf_13 :
    runs [0xEA#8, 0x00#8, 0x20#8]
    { start with flags := five false false false false false, pc := 0x0100#16 }
    (fun s => { s with pc := 0x0103#16 }) = true := by
  decide

/-- `JM 2000h` -/
theorem test_v_cf_17 :
    runs [0xFA#8, 0x00#8, 0x20#8]
    { start with flags := five false false false false false, pc := 0x0100#16 }
    (fun s => { s with pc := 0x0103#16 }) = true := by
  decide

/-- `CNZ 1234h` -/
theorem test_v_cf_20 :
    runs [0xC4#8, 0x34#8, 0x12#8]
    { start with sp := 0x2400#16, flags := five false true false false false, pc := 0x0100#16 }
    (fun s => { s with pc := 0x0103#16 }) = true := by
  decide

/-- `CNC 1234h` -/
theorem test_v_cf_24 :
    runs [0xD4#8, 0x34#8, 0x12#8]
    { start with sp := 0x2400#16, flags := five false false false false true, pc := 0x0100#16 }
    (fun s => { s with pc := 0x0103#16 }) = true := by
  decide

/-- `CPO 1234h` -/
theorem test_v_cf_28 :
    runs [0xE4#8, 0x34#8, 0x12#8]
    { start with sp := 0x2400#16, flags := five false false false true false, pc := 0x0100#16 }
    (fun s => { s with pc := 0x0103#16 }) = true := by
  decide

/-- `CP 1234h` -/
theorem test_v_cf_32 :
    runs [0xF4#8, 0x34#8, 0x12#8]
    { start with sp := 0x2400#16, flags := five true false false false false, pc := 0x0100#16 }
    (fun s => { s with pc := 0x0103#16 }) = true := by
  decide

/-- `RET` -/
theorem test_v_cf_35 :
    runs [0xC9#8]
    { start with sp := 0x23FE#16, pc := 0x3000#16, mem := memory [(0x23FE#16, 0x03#8), (0x23FF#16, 0x01#8)] }
    (fun s => { s with sp := 0x2400#16, pc := 0x0103#16 }) = true := by
  decide

/-- `RZ` -/
theorem test_v_cf_39 :
    runs [0xC8#8]
    { start with sp := 0x23FE#16, flags := five false false false false false, pc := 0x3000#16,
                 mem := memory [(0x23FE#16, 0x03#8), (0x23FF#16, 0x01#8)] }
    (fun s => { s with pc := 0x3001#16 }) = true := by
  decide

/-- `RC` -/
theorem test_v_cf_43 :
    runs [0xD8#8]
    { start with sp := 0x23FE#16, flags := five false false false false false, pc := 0x3000#16,
                 mem := memory [(0x23FE#16, 0x03#8), (0x23FF#16, 0x01#8)] }
    (fun s => { s with pc := 0x3001#16 }) = true := by
  decide

/-- `RPE` -/
theorem test_v_cf_47 :
    runs [0xE8#8]
    { start with sp := 0x23FE#16, flags := five false false false false false, pc := 0x3000#16,
                 mem := memory [(0x23FE#16, 0x03#8), (0x23FF#16, 0x01#8)] }
    (fun s => { s with pc := 0x3001#16 }) = true := by
  decide

/-- `RM` -/
theorem test_v_cf_51 :
    runs [0xF8#8]
    { start with sp := 0x23FE#16, flags := five false false false false false, pc := 0x3000#16,
                 mem := memory [(0x23FE#16, 0x03#8), (0x23FF#16, 0x01#8)] }
    (fun s => { s with pc := 0x3001#16 }) = true := by
  decide

/-- `RST 2` -/
theorem test_v_cf_54 :
    runs [0xD7#8]
    { start with sp := 0x2400#16, pc := 0x0100#16 }
    (fun s => { s with sp := 0x23FE#16, pc := 0x0010#16, mem := writes s.mem [(0x23FE#16, 0x01#8), (0x23FF#16,
                       0x01#8)] }) = true := by
  decide

/-- `RST 7` -/
theorem test_v_cf_59 :
    runs [0xFF#8]
    { start with sp := 0x2400#16, pc := 0x0100#16 }
    (fun s => { s with sp := 0x23FE#16, pc := 0x0038#16, mem := writes s.mem [(0x23FE#16, 0x01#8), (0x23FF#16,
                       0x01#8)] }) = true := by
  decide

/-- `RST 2` -/
theorem test_v_cf_60 :
    runs [0xD7#8]
    { start with sp := 0x2400#16, pc := 0xFFFF#16 }
    (fun s => { s with sp := 0x23FE#16, pc := 0x0010#16 }) = true := by
  decide

/-- `JMP 4321h` -/
theorem test_v_cf_63 :
    runs [0xC3#8, 0x21#8, 0x43#8]
    { start with pc := 0xFFFE#16 }
    (fun s => { s with pc := 0x4321#16 }) = true := by
  decide

/-- `OUT 4` -/
theorem test_v_io_02 :
    runs [0xD3#8, 0x04#8]
    { start with a := 0xFF#8, shiftReg := 0xAA00#16, pc := 0x0100#16 }
    (fun s => { s with shiftReg := 0xFFAA#16, pc := 0x0102#16 }) = true := by
  decide

/-- `IN 3` -/
theorem test_v_io_05 :
    runs [0xDB#8, 0x03#8]
    { start with a := 0x00#8, shiftReg := 0xFFAA#16, shiftOffset := 2#3, pc := 0x0100#16 }
    (fun s => { s with a := 0xFE#8, pc := 0x0102#16 }) = true := by
  decide

/-- `IN 3` -/
theorem test_v_io_10 :
    runs [0xDB#8, 0x03#8]
    { start with a := 0x00#8, shiftReg := 0xFFAA#16, shiftOffset := 7#3, pc := 0x0100#16 }
    (fun s => { s with a := 0xD5#8, pc := 0x0102#16 }) = true := by
  decide

/-- `IN 3` -/
theorem test_v_io_12 :
    runs [0xDB#8, 0x03#8]
    { start with shiftReg := 0x3412#16, shiftOffset := 7#3, pc := 0x0100#16 }
    (fun s => { s with a := 0x09#8, pc := 0x0102#16 }) = true := by
  decide

/-- `OUT 2` -/
theorem test_v_io_14 :
    runs [0xD3#8, 0x02#8]
    { start with a := 0xFB#8, pc := 0x0100#16 }
    (fun s => { s with shiftOffset := 3#3, pc := 0x0102#16 }) = true := by
  decide

/-- `IN 1` -/
theorem test_v_io_16 :
    runs [0xDB#8, 0x01#8]
    { start with port1 := 0x85#8, pc := 0x0100#16 }
    (fun s => { s with a := 0x85#8, pc := 0x0102#16 }) = true := by
  decide

/-- `OUT 3` -/
theorem test_v_io_20 :
    runs [0xD3#8, 0x03#8]
    { start with a := 0xFF#8, shiftReg := 0x1234#16, shiftOffset := 2#3, pc := 0x0100#16 }
    (fun s => { s with pc := 0x0102#16 }) = true := by
  decide

/-- `NOP` -/
theorem test_v_mc_01 :
    runs [0x00#8]
    { start with a := 0x12#8, flags := five true true true true true, pc := 0x0100#16 }
    (fun s => { s with pc := 0x0101#16 }) = true := by
  decide

/-- `NOP* (CB)` -/
theorem test_v_mc_03 :
    runs [0xCB#8, 0x34#8, 0x12#8]
    { start with pc := 0x0100#16 }
    (fun s => { s with pc := 0x0101#16 }) = true := by
  decide

/-- `NOP* (D9)` -/
theorem test_v_mc_04 :
    runs [0xD9#8]
    { start with sp := 0x23FE#16, pc := 0x0100#16, mem := memory [(0x23FE#16, 0x03#8), (0x23FF#16, 0x01#8)] }
    (fun s => { s with pc := 0x0101#16 }) = true := by
  decide

/-- `EI` -/
theorem test_v_mc_10 :
    runs [0xFB#8]
    { start with inte := false, pc := 0x0100#16 }
    (fun s => { s with inte := true, pc := 0x0101#16 }) = true := by
  decide

/-- `DI` -/
theorem test_v_mc_11 :
    runs [0xF3#8]
    { start with inte := true, pc := 0x0100#16 }
    (fun s => { s with inte := false, pc := 0x0101#16 }) = true := by
  decide

/-- `IntReq(2)` -/
theorem test_v_mc_13 :
    interrupted 2#3
    { start with pc := 0x1234#16, sp := 0x2400#16, inte := true }
    (fun s => { s with sp := 0x23FE#16,
                       inte := false,
                       pc := 0x0010#16,
                       mem := writes s.mem [(0x23FE#16, 0x34#8), (0x23FF#16, 0x12#8)] }) = true := by
  decide

/-- `IntReq(2)` -/
theorem test_v_mc_14 :
    interrupted 2#3
    { start with pc := 0x1234#16, sp := 0x2400#16, inte := false }
    (fun s => { s with pc := 0x1234#16 }) = true := by
  decide

/-- `IntReq(7)` -/
theorem test_v_mc_15 :
    interrupted 7#3
    { start with pc := 0x0000#16, sp := 0x0000#16, inte := true, mem := memory [(0xFFFE#16, 0xEE#8), (0xFFFF#16, 0xEE#8)] }
    (fun s => { s with sp := 0xFFFE#16,
                       inte := false,
                       pc := 0x0038#16,
                       mem := writes s.mem [(0xFFFE#16, 0x00#8), (0xFFFF#16, 0x00#8)] }) = true := by
  decide

/-! ## Witnesses: states and operands that meet the hypotheses of the statements, clause by clause -/

theorem bytesAt_nil (s : State) (x : Word) : BytesAt s x [] := by
  intro k b h
  simp at h

theorem bytesAt_cons {s : State} {x : Word} {b : Byte} {bytes : List Byte} (h : s.mem.read x = b)
    (t : BytesAt s (x + 1#16) bytes) : BytesAt s x (b :: bytes) := by
  intro k c hk
  match k with
  | 0 => simpa [h] using hk
  | k + 1 =>
    have hx : x + BitVec.ofNat 16 (k + 1) = x + 1#16 + BitVec.ofNat 16 k := by
      rw [BitVec.ofNat_add, BitVec.add_assoc, BitVec.add_comm (1#16)]
    rw [hx]
    exact t k c (by simpa using hk)

/-- A running core with interrupts enabled, all flags 0. -/
def ready : State := { start with pc := 0x1234#16, sp := 0x2400#16, inte := true }

/-- The same with all flags 1. -/
def flagged : State := { ready with flags := five true true true true true }

/-- The same at the top of memory, so that fetches and pushes wrap. -/
def atTop : State := { flagged with pc := 0xFFFE#16, sp := 0x0001#16 }

theorem witness_EncodeAfterDecode :
    decode [0xC2#8, 0x00#8, 0x01#8, 0xFF#8] = .instr (.jnz 0x0100#16) [0xFF#8] ∧
    decode [0xD3#8, 0xFF#8] = .instr (.outPort 0xFF#8) [] ∧ decode [0xFD#8] = .instr .nopFD [] := by
  decide

theorem witness_EveryOpcodeDecodesAtItsLength :
    ([] : List Byte).length + 1 < opcodeLength 0x3E#8 ∧ ([] : List Byte).length + 1 < opcodeLength 0xFA#8 ∧
    [0xFF#8].length + 1 < opcodeLength 0xC3#8 := by
  decide

/-- Both sides of the equivalence hold of 0xFD, and neither of 0x00. -/
theorem witness_UndocumentedBytesAreTheTwelve :
    Instr.form .nopFD = .undocumented .uFD ∧ decode [0xFD#8] = .instr .nopFD [] ∧ 0xFD#8 ∈ undocumentedBytes ∧
    0x00#8 ∉ undocumentedBytes := by
  decide

theorem witness_StepRunsTheDecodedInstruction :
    (placed [0xCD#8, 0x34#8, 0x12#8] atTop).run = .running ∧
    decode [(placed [0xCD#8, 0x34#8, 0x12#8] atTop).mem.read 0xFFFE#16,
      (placed [0xCD#8, 0x34#8, 0x12#8] atTop).mem.read (0xFFFE#16 + 1#16),
      (placed [0xCD#8, 0x34#8, 0x12#8] atTop).mem.read (0xFFFE#16 + 2#16)] = .instr (.call 0x1234#16) [] ∧
    BytesAt (placed [0xCD#8, 0x34#8, 0x12#8] atTop) 0xFFFE#16 (encode (.call 0x1234#16)) :=
  ⟨rfl, by decide, bytesAt_cons (by decide) (bytesAt_cons (by decide) (bytesAt_cons (by decide) (bytesAt_nil _ _)))⟩

theorem witness_MemoryFormIsCanonical :
    Memory.wf [(0, 0x01#8), (65535, 0xFF#8)] = true ∧
    (∀ x, Memory.read [(65535, 0xFF#8)] x = Memory.read (Memory.write [(0, 0x01#8), (65535, 0xFF#8)] 0#16 0x00#8) x) ∧
    Memory.wf (Memory.write [(0, 0x01#8), (65535, 0xFF#8)] 0#16 0x00#8) = true ∧ 0x0000#16 ≠ 0xFFFF#16 :=
  ⟨by decide, fun _ => rfl, by decide, by decide⟩

/-- The statements about the instructions of one form, whatever the form and its operands, speak of some instruction: this
meets the hypothesis `i.form = …` of every such statement. -/
theorem witness_every_form (f : Form) : ∃ i : Instr, i.form = f := form_onto f

theorem witness_RegisterMovesGiveTheSource :
    Instr.form .movBC = .mov .b .c ∧ Instr.form .movAA = .mov .a .a ∧ Instr.form (.mviB 0x00#8) = .mvi .b 0x00#8 ∧
    Instr.form (.mviA 0xFF#8) = .mvi .a 0xFF#8 := by
  decide

theorem witness_LoadsReadTheAddressedByte :
    Instr.form .movLM = .movFromM .l ∧ Instr.form (.lda 0xFFFF#16) = .lda 0xFFFF#16 ∧
    Instr.form (.lhld 0xFFFF#16) = .lhld 0xFFFF#16 ∧ Instr.form .ldaxB = .ldax .bc ∧ Instr.form .ldaxD = .ldax .de := by
  decide

theorem witness_PairLoadsAndExchange :
    Instr.form (.lxiB 0x0000#16) = .lxi .bc 0x0000#16 ∧ Instr.form (.lxiD 0x00FF#16) = .lxi .de 0x00FF#16 ∧
    Instr.form (.lxiH 0xFF00#16) = .lxi .hl 0xFF00#16 ∧ Instr.form (.lxiSp 0xFFFF#16) = .lxi .sp 0xFFFF#16 := by
  decide

theorem witness_StoresWriteTheAddressedBytes :
    Instr.form .movMH = .movToM .h ∧ Instr.form (.mviM 0xFF#8) = .mviM 0xFF#8 ∧
    Instr.form (.sta 0x0000#16) = .sta 0x0000#16 ∧ Instr.form (.shld 0xFFFF#16) = .shld 0xFFFF#16 ∧
    Instr.form .staxB = .stax .bc ∧ Instr.form .staxD = .stax .de := by
  decide

theorem witness_AddFormsGiveSumAndFlags :
    Instr.form .addA = Source.form .add (.register .a) ∧ Instr.form .addM = Source.form .add .memory ∧
    Instr.form (.adi 0xFF#8) = Source.form .add (.immediate 0xFF#8) ∧
    Instr.form .adcB = Source.form .adc (.register .b) ∧ Instr.form .adcM = Source.form .adc .memory ∧
    Instr.form (.aci 0x00#8) = Source.form .adc (.immediate 0x00#8) := by
  decide

theorem witness_SubtractFormsGiveDifferenceAndFlags :
    Instr.form .subA = Source.form .sub (.register .a) ∧ Instr.form .subM = Source.form .sub .memory ∧
    Instr.form (.sui 0xFF#8) = Source.form .sub (.immediate 0xFF#8) ∧
    Instr.form .sbbB = Source.form .sbb (.register .b) ∧ Instr.form .sbbM = Source.form .sbb .memory ∧
    Instr.form (.sbi 0x00#8) = Source.form .sbb (.immediate 0x00#8) := by
  decide

theorem witness_IncrementAndDecrementRegister :
    Instr.form .inrB = .inr .b ∧ Instr.form .inrA = .inr .a ∧ Instr.form .dcrB = .dcr .b ∧ Instr.form .dcrA = .dcr .a := by
  decide

theorem witness_PairArithmeticWrapsAndKeepsFlags :
    Instr.form .inxB = .inx .bc ∧ Instr.form .inxSp = .inx .sp ∧ Instr.form .dcxB = .dcx .bc ∧
    Instr.form .dcxSp = .dcx .sp ∧ Instr.form .dadH = .dad .hl ∧ Instr.form .dadSp = .dad .sp := by
  decide

/-- A state for DAA, with A and the flags AC and CY. -/
def forDaa (a : Byte) (ac cy : Bool) : State := { start with a := a, flags := five false false ac false cy }

/-- Each of the two corrections due by each of its reasons, at the boundary, and not due just below it. -/
theorem witness_DecimalAdjustCorrectsTheSum_corrections :
    daaLowDue (forDaa 0x0A#8 false false) ∧ daaLowDue (forDaa 0x00#8 true false) ∧
    ¬ daaLowDue (forDaa 0x09#8 false true) ∧
    daaHighDue (forDaa 0xA0#8 false false) ∧ daaHighDue (forDaa 0x00#8 false true) ∧
    daaHighDue (forDaa 0x9A#8 false false) ∧ ¬ daaHighDue (forDaa 0x99#8 true false) := by
  unfold daaLowDue daaHighDue
  decide

/-- Valid packed-BCD operands at both ends, for ADD with any carry, and for ADC with the carry 1. -/
theorem witness_DecimalAdjustCorrectsTheSum_sums :
    (Instr.form (.adi 0x99#8) = Source.form .add (.immediate 0x99#8) ∧ ValidBcd (forDaa 0x00#8 false true).a ∧
      ValidBcd (Source.value (forDaa 0x00#8 false true) (.immediate 0x99#8))) ∧
    (Instr.form .adcA = Source.form .adc (.register .a) ∧ true = (forDaa 0x99#8 true true).flags.cy ∧
      ValidBcd (forDaa 0x99#8 true true).a ∧ ValidBcd (Source.value (forDaa 0x99#8 true true) (.register .a))) := by
  unfold ValidBcd
  decide

/-- The equivalence holds with both sides true for A = 09, and with both false for A = 0A. -/
theorem witness_SecondDecimalAdjustIsIdleExactlyWhen :
    (forDaa 0x09#8 false false).decimalAdjust.decimalAdjust = (forDaa 0x09#8 false false).decimalAdjust ∧
    (forDaa 0x0A#8 false false).decimalAdjust.decimalAdjust ≠ (forDaa 0x0A#8 false false).decimalAdjust := by
  decide

theorem witness_LogicalFormsGiveResultAndClearCarries :
    Instr.form .anaA = Source.form .ana (.register .a) ∧ Instr.form .anaM = Source.form .ana .memory ∧
    Instr.form (.ani 0xFF#8) = Source.form .ana (.immediate 0xFF#8) ∧
    Instr.form .xraA = Source.form .xra (.register .a) ∧ Instr.form .xraM = Source.form .xra .memory ∧
    Instr.form (.xri 0xFF#8) = Source.form .xra (.immediate 0xFF#8) ∧
    Instr.form .oraB = Source.form .ora (.register .b) ∧ Instr.form .oraM = Source.form .ora .memory ∧
    Instr.form (.ori 0x00#8) = Source.form .ora (.immediate 0x00#8) := by
  decide

theorem witness_CompareSetsFlagsOnly :
    Instr.form .cmpA = Source.form .cmp (.register .a) ∧ Instr.form .cmpM = Source.form .cmp .memory ∧
    Instr.form (.cpi 0xFF#8) = Source.form .cmp (.immediate 0xFF#8) := by
  decide

theorem witness_PushStoresHighThenLow : Instr.form .pushB = .push .bc ∧ Instr.form .pushPsw = .push .psw := by decide

theorem witness_PopLoadsLowThenHigh : Instr.form .popB = .pop .bc ∧ Instr.form .popPsw = .pop .psw := by decide

theorem witness_PushThenPopRestores :
    Instr.form .pushD = .push .de ∧ Instr.form .popD = .pop .de ∧ Instr.form .pushPsw = .push .psw ∧
    Instr.form .popPsw = .pop .psw := by
  decide

/-- With all flags 0 the conditions NZ, NC, PO, P hold, with all flags 1 the others, and in each case the opposite ones do
not. -/
theorem witness_conditions :
    (condTrue ready.flags .nz ∧ condTrue ready.flags .nc ∧ condTrue ready.flags .po ∧ condTrue ready.flags .p ∧
      condTrue flagged.flags .z ∧ condTrue flagged.flags .c ∧ condTrue flagged.flags .pe ∧ condTrue flagged.flags .m) ∧
    ¬ condTrue flagged.flags .nz ∧ ¬ condTrue flagged.flags .nc ∧ ¬ condTrue flagged.flags .po ∧
      ¬ condTrue flagged.flags .p ∧ ¬ condTrue ready.flags .z ∧ ¬ condTrue ready.flags .c ∧
      ¬ condTrue ready.flags .pe ∧ ¬ condTrue ready.flags .m := by
  unfold condTrue
  decide

theorem witness_JumpsGoWhereTheConditionSays :
    Instr.form (.jnz 0x0000#16) = .jcc .nz 0x0000#16 ∧ Instr.form (.jm 0xFFFF#16) = .jcc .m 0xFFFF#16 ∧
    condTrue ready.flags .nz ∧ ¬ condTrue ready.flags .m :=
  ⟨rfl, rfl, witness_conditions.1.1, witness_conditions.2.2.2.2.2.2.2.2⟩

theorem witness_CallsPushThenTransfer :
    Instr.form (.cnz 0x0000#16) = .ccc .nz 0x0000#16 ∧ Instr.form (.cm 0xFFFF#16) = .ccc .m 0xFFFF#16 ∧
    condTrue ready.flags .nz ∧ ¬ condTrue ready.flags .m :=
  ⟨rfl, rfl, witness_conditions.1.1, witness_conditions.2.2.2.2.2.2.2.2⟩

theorem witness_ReturnsPopThePc :
    Instr.form .rnz = .rcc .nz ∧ Instr.form .rm = .rcc .m ∧ condTrue ready.flags .nz ∧ ¬ condTrue ready.flags .m :=
  ⟨rfl, rfl, witness_conditions.1.1, witness_conditions.2.2.2.2.2.2.2.2⟩

theorem witness_RestartAndPchl : Instr.form .rst0 = .rst 0 ∧ Instr.form .rst7 = .rst 7 := by decide

/-- `JM`, `CM` and `RM` at the top of memory, where their bytes wrap, on flags that take them and flags that do not. -/
theorem witness_OperandBytesAreAlwaysConsumed_conditional :
    BytesAt (placed [0xFA#8, 0xFF#8, 0xFF#8] atTop) atTop.pc (byte (0xC2 + 8 * condNumber .m) :: lowHigh 0xFFFF#16) ∧
    BytesAt (placed [0xFC#8, 0x00#8, 0x00#8] atTop) atTop.pc (byte (0xC4 + 8 * condNumber .m) :: lowHigh 0x0000#16) ∧
    (placed [0xF8#8] atTop).mem.read atTop.pc = byte (0xC0 + 8 * condNumber .m) ∧
    atTop.run = .running ∧ condTrue atTop.flags .m ∧ ¬ condTrue { atTop with flags := ready.flags }.flags .m :=
  ⟨bytesAt_cons (by decide) (bytesAt_cons (by decide) (bytesAt_cons (by decide) (bytesAt_nil _ _))),
   bytesAt_cons (by decide) (bytesAt_cons (by decide) (bytesAt_cons (by decide) (bytesAt_nil _ _))),
   by decide, rfl, witness_conditions.1.2.2.2.2.2.2.2, witness_conditions.2.2.2.2.2.2.2.2⟩

theorem witness_OperandBytesAreAlwaysConsumed_always :
    BytesAt (placed [0xC3#8, 0xFF#8, 0xFF#8] atTop) atTop.pc (0xC3#8 :: lowHigh 0xFFFF#16) ∧
    BytesAt (placed [0xCD#8, 0x00#8, 0x00#8] atTop) atTop.pc (0xCD#8 :: lowHigh 0x0000#16) :=
  ⟨bytesAt_cons (by decide) (bytesAt_cons (by decide) (bytesAt_cons (by decide) (bytesAt_nil _ _))),
   bytesAt_cons (by decide) (bytesAt_cons (by decide) (bytesAt_cons (by decide) (bytesAt_nil _ _)))⟩

/-- `CALL 0300` at 1234 with `RET` at 0300 and the stack at 2400. -/
def callAndRet : State := placed [0xCD#8, 0x00#8, 0x03#8] { ready with mem := memory [(0x0300#16, 0xC9#8)] }

theorem witness_CallThenReturnRestores :
    callAndRet.run = .running ∧ BytesAt callAndRet callAndRet.pc (0xCD#8 :: lowHigh 0x0300#16) ∧
    callAndRet.mem.read 0x0300#16 = 0xC9#8 ∧ 0x0300#16 ≠ callAndRet.sp - 1#16 ∧ 0x0300#16 ≠ callAndRet.sp - 2#16 :=
  ⟨rfl, bytesAt_cons (by decide) (bytesAt_cons (by decide) (bytesAt_cons (by decide) (bytesAt_nil _ _))), by decide,
   by decide, by decide⟩

/-- `STA 1237` at 1234 with the opcode of HLT in A. -/
def selfModifying : State := placed [0x32#8, 0x37#8, 0x12#8] { ready with a := 0x76#8 }

theorem witness_StoreIsSeenByTheNextFetch :
    selfModifying.run = .running ∧ BytesAt selfModifying selfModifying.pc (0x32#8 :: lowHigh (selfModifying.pc + 3#16)) ∧
    encode .hlt = [selfModifying.a] :=
  ⟨rfl, bytesAt_cons (by decide) (bytesAt_cons (by decide) (bytesAt_cons (by decide) (bytesAt_nil _ _))), by decide⟩

theorem witness_InGivesThePortsAnswer :
    Instr.form (.inPort 0x00#8) = .inp 0x00#8 ∧ Instr.form (.inPort 0x03#8) = .inp 0x03#8 ∧
    Instr.form (.inPort 0xFF#8) = .inp 0xFF#8 := by
  decide

theorem witness_OutChangesTheShifterOnly :
    Instr.form (.outPort 0x02#8) = .out 0x02#8 ∧ Instr.form (.outPort 0x04#8) = .out 0x04#8 ∧
    Instr.form (.outPort 0xFF#8) = .out 0xFF#8 := by
  decide

theorem witness_ShifterGivesTheWindowItWasFed :
    ({ ready with shiftReg := 0xFF01#16, shiftOffset := 7#3 } : State).shiftReg.toNat =
      (0xFF#8 : Byte).toNat * 256 + (0x01#8 : Byte).toNat := by
  decide

theorem witness_NoOperationsChangeNothing :
    Instr.form .nop08 = .undocumented .u08 ∧ Instr.form .nopFD = .undocumented .uFD ∧ atTop.run = .running ∧
    (placed [0x00#8] atTop).mem.read atTop.pc = 0x00#8 ∧ (placed [0xFD#8] atTop).mem.read atTop.pc ∈ undocumentedBytes := by
  decide

theorem witness_HaltAndInterruptEnable :
    atTop.run = .running ∧ (placed [0x76#8] atTop).mem.read (placed [0x76#8] atTop).pc = 0x76#8 := by
  decide

/-- A request accepted, refused because interrupts are off, and refused in each state that is not running. -/
theorem witness_InterruptRequestAcceptedOrLost :
    (ready.run = .running ∧ ready.inte = true) ∧ State.reset.inte = false ∧
    { ready with run := .halted }.run ≠ .running ∧ { ready with run := .stopped }.run ≠ .running ∧
    { ready with run := .decodeError 0x08#8 0x0000#16 }.run ≠ .running := by
  decide

theorem witness_AcceptanceIsRestartWithInterruptsOff :
    Instr.form .rst0 = .rst 0 ∧ Instr.form .rst7 = .rst 7 ∧ ready.run = .running ∧ ready.inte = true := by
  decide

theorem witness_HandlerReturnRestoresPc : atTop.run = .running ∧ atTop.inte = true := by decide

theorem witness_StopAndTerminalStates :
    ready.run = .running ∧ { ready with run := .halted }.run ≠ .running ∧ { ready with run := .stopped }.run ≠ .running ∧
    { ready with run := .decodeError 0x08#8 0x0000#16 }.run ≠ .running := by
  decide

theorem witness_EveryStepCompletes :
    ready.run = .running ∧ (placed [0x76#8] ready).mem.read ready.pc = 0x76#8 ∧
    (placed [0x00#8] ready).mem.read ready.pc ≠ 0x76#8 ∧
    { ready with run := .decodeError 0x08#8 0x0000#16 }.run.isDecodeError = true := by
  decide

theorem witness_StepKeepsTheInvariant :
    (placed [0xCD#8, 0x00#8, 0x03#8] atTop).Inv ∧ ∃ t, step (placed [0xCD#8, 0x00#8, 0x03#8] atTop) = .next t :=
  ⟨⟨by decide, by decide⟩, _, rfl⟩

/-- A state that meets the invariant, not the constructed core, with a boundary and step from it that complete. -/
theorem witness_DecodeErrorIsUnreachable_boundary :
    atTop.Inv ∧ ∃ t, systemStep { reset := none, stop := false, latches := [(.one, 0xFF#8)], requests := [7, 0] } atTop =
      .next t :=
  ⟨⟨by decide, by decide⟩, _, rfl⟩

/-- The constructed core, and the state after a Reset with an image, latch writes and a step. -/
theorem witness_DecodeErrorIsUnreachable :
    Reachable State.reset ∧ ∃ t, Reachable t ∧ t.run = .halted ∧ t.port2 = 0xFF#8 :=
  ⟨.constructed, _,
    .next { reset := some [{ base := 0, bytes := [0x76#8] }], stop := false, latches := [(.two, 0xFF#8)], requests := [1] }
      .constructed rfl,
    rfl, rfl⟩

theorem witness_FlagsChangeOnlyWhereTheTableSays :
    exec .inxB flagged = .next (flagged.inxPair .bc) ∧ writesResultFlags (Instr.form .inxB) = false ∧
    writesCarry (Instr.form .inxB) = false ∧ writesResultFlags (Instr.form .stc) = false ∧
    writesCarry (Instr.form .inrA) = false :=
  ⟨rfl, rfl, rfl, rfl, rfl⟩

theorem witness_ControlStateHasItsWritersOnly :
    Instr.nop ≠ .ei ∧ Instr.nop ≠ .di ∧ Instr.nop ≠ .hlt ∧ Instr.outPort 2#8 ≠ .outPort 4#8 ∧
    Instr.outPort 4#8 ≠ .outPort 2#8 := by
  decide

theorem witness_MemorySpAndPcHaveTheirWritersOnly :
    exec (.lxiH 0xFFFF#16) flagged = .next (flagged.setPair .hl 0xFFFF#16) ∧
    writesMemory (Instr.form (.lxiH 0xFFFF#16)) = false ∧ writesSp (Instr.form (.lxiH 0xFFFF#16)) = false ∧
    writesPc (Instr.form (.lxiH 0xFFFF#16)) = false :=
  ⟨rfl, rfl, rfl, rfl⟩

theorem witness_LatchesAreWrittenWholeAndSeenThroughIn :
    (placed [0xDA#8, 0x01#8] atTop).mem.read atTop.pc ≠ 0xDB#8 := by
  decide

theorem witness_InterruptEnableIsNotRead : Instr.rst7 ≠ .ei ∧ Instr.rst7 ≠ .di := by decide

/-- An image that ends at the last byte of memory, and one that is one byte too long. -/
theorem witness_LoadImagePlacesTheBytes :
    0xFFFF + [0xAA#8].length ≤ 65536 ∧ 65536 < 0xFFFF + [0xAA#8, 0xBB#8].length := by
  decide

theorem witness_FramebufferViewIsTheRange : 0 < 0x1C00 ∧ 0x1BFF < 0x1C00 := by decide

theorem witness_RunBudgetIsStepsInARow :
    ready.run = .running ∧ { ready with run := .stopped }.run ≠ .running ∧ (0 ≤ 0 ∧ 100 ≤ 101) := by
  decide

theorem witness_BoundaryOrder :
    ({ reset := none, stop := true, latches := [(.one, 0xFF#8)], requests := [0, 7] } : Boundary).reset = none ∧
    ({ reset := none, stop := true, latches := [(.one, 0xFF#8)], requests := [0, 7] } : Boundary).stop = true ∧
    ready.run = .running ∧ ready.inte = true := by
  decide


end Sys2Proof.Tests
end

/-! ## Decoding an instruction's own encoding -/

namespace Sys2Proof

/-- A three-byte row reads its operand back from the two halves, the low one first (R81, R88). -/
theorem decode_imm16 {op : Byte} {f : Word → Instr} (h : tableRow op = some (.imm16 f)) (w : Word) (rest : List Byte) :
    decode (op :: lo8 w :: hi8 w :: rest) = .instr (f w) rest := by
  simp [decode, h]

/-- Decoding inverts encoding, whatever bytes follow. Only the three-byte instructions need an argument: there the operand
is put together again from its halves. -/
theorem decode_encode (i : Instr) (rest : List Byte) : decode (encode i ++ rest) = .instr i rest := by
  cases i
  case lxiB | lxiD | lxiH | lxiSp | shld | lhld | sta | lda => exact decode_imm16 rfl _ _
  case jmp | jnz | jz | jnc | jc | jpo | jpe | jp | jm => exact decode_imm16 rfl _ _
  case call | cnz | cz | cnc | cc | cpo | cpe | cp | cm => exact decode_imm16 rfl _ _
  all_goals rfl

/-- No encoding is longer than three bytes (R81). -/
theorem encode_length_le (i : Instr) : (encode i).length ≤ 3 := by
  have h : i.form.operands.length ≤ 2 := by
    unfold Form.operands
    split <;> simp
  exact Nat.succ_le_succ h

/-- HLT is the one instruction whose opcode byte is 0x76 (R90): that byte has one meaning. -/
theorem opcode_eq_0x76_iff (i : Instr) : i.form.opcode = 0x76#8 ↔ i = .hlt := by
  constructor
  · intro h
    have hd : decode (i.form.opcode :: i.form.operands ++ []) = .instr i [] := decode_encode i []
    rw [h] at hd
    exact (Decoded.instr.inj hd).1.symm
  · rintro rfl
    rfl

end Sys2Proof

/-! ## The step and the bytes at PC -/

namespace Sys2Proof.Machine

/-- The three bytes from PC on (mod 65536), the most a fetch can read (R8, R81). -/
def State.window (s : State) : List Byte :=
  [s.mem.read s.pc, s.mem.read (s.pc + 1#16), s.mem.read (s.pc + 2#16)]

theorem State.window_getElem? (s : State) {k : Nat} (h : k < 3) :
    s.window[k]? = some (s.mem.read (s.pc + BitVec.ofNat 16 k)) := by
  match k with
  | 0 => simp [State.window]
  | 1 => rfl
  | 2 => rfl

/-- An instruction whose bytes stand at PC is the start of the three bytes there. -/
theorem State.Holds.encode_prefix_window {s : State} {i : Instr} (h : s.Holds i) : encode i <+: s.window := by
  rw [List.prefix_iff_getElem?]
  intro k hk
  rw [s.window_getElem? (Nat.lt_of_lt_of_le hk (encode_length_le i)), h k _ (List.getElem?_eq_getElem hk)]

/-- An instruction whose bytes stand at PC is the one decoded there. -/
theorem State.Holds.decode_window {s : State} {i : Instr} (h : s.Holds i) : ∃ rest, decode s.window = .instr i rest := by
  obtain ⟨rest, hw⟩ := h.encode_prefix_window
  exact ⟨rest, by rw [← hw, decode_encode]⟩

/-- The byte at PC is the opcode of the instruction that stands there. -/
theorem State.Holds.opcode {s : State} {i : Instr} (h : s.Holds i) : s.mem.read s.pc = i.form.opcode := by
  simpa using h 0 i.form.opcode rfl

/-- The fetch and the decoder agree (R8, R271): the fetch's instruction stands at PC, and the bytes there decode to one
instruction only. -/
theorem fetchInstr_of_decode_window {s : State} {i : Instr} {rest : List Byte} (h : decode s.window = .instr i rest) :
    s.fetchInstr = .instr i (s.past i) := by
  obtain ⟨j, hfetch, hholds⟩ := fetchInstr_spec s
  obtain ⟨rest', hj⟩ := hholds.decode_window
  obtain ⟨rfl, -⟩ := Decoded.instr.inj (hj.symm.trans h)
  exact hfetch

/-- A running core runs the instruction its bytes at PC decode to (R271). -/
theorem step_of_decode_window {s : State} {i : Instr} {rest : List Byte} (hrun : s.run = .running)
    (h : decode s.window = .instr i rest) : step s = exec i (s.past i) := by
  simp [step, State.stepOnce, State.runInstruction, hrun, fetchInstr_of_decode_window h]

/-- A running core is halted by the byte 0x76 and stays running after any other (R29, R261, R272). -/
theorem step_running_run {s : State} (hrun : s.run = .running) :
    ∃ t, step s = .next t ∧ t.run = if s.mem.read s.pc = 0x76#8 then .halted else .running := by
  obtain ⟨i, hholds, hstep⟩ := step_running hrun
  refine ⟨_, hstep, ?_⟩
  rw [hholds.opcode]
  split
  · next hop =>
    obtain rfl := (opcode_eq_0x76_iff i).mp hop
    rfl
  · next hop =>
    have hform : i.form ≠ .hlt := fun hf => hop (by rw [hf]; rfl)
    rw [State.effect_run _ _ hform]
    exact hrun

/-! ## The obligations -/

/-- Settles O6: the fetch finds the instruction the decoder reads at PC, and an encoding standing there is what it reads. -/
theorem stepRunsTheDecodedInstruction : Obligations.StepRunsTheDecodedInstruction := by
  unfold Obligations.StepRunsTheDecodedInstruction
  constructor
  · intro s i rest hrun hdecode
    exact step_of_decode_window hrun hdecode
  · intro s i hrun hbytes
    have hholds : s.Holds i := hbytes
    obtain ⟨rest, hdecode⟩ := hholds.decode_window
    exact step_of_decode_window hrun hdecode

/-- Settles O47: a running core steps to the halted or the running state by the byte at PC, never to the decode error; any
other core keeps its state. -/
theorem everyStepCompletes : Obligations.EveryStepCompletes := by
  unfold Obligations.EveryStepCompletes
  intro s
  by_cases hrun : s.run = .running
  · obtain ⟨t, hstep, ht⟩ := step_running_run hrun
    refine ⟨t, hstep, ?_, fun _ => ⟨fun h => by rw [ht, if_pos h], fun h => by rw [ht, if_neg h]⟩⟩
    intro herr
    rw [ht] at herr
    split at herr <;> cases herr
  · exact ⟨s, step_not_running hrun, fun _ => rfl, fun h => absurd h hrun⟩

end Sys2Proof.Machine

/-! ## An instruction is determined by its form -/

namespace Sys2Proof

/-- Instructions of one form are one instruction: the form gives the encoding, and the encoding decodes to one
instruction (R83). -/
theorem form_injective : Function.Injective Instr.form := by
  intro i j h
  have hencode : encode i = encode j := by simp only [encode, h]
  have hdecode : Decoded.instr i [] = .instr j [] := by
    rw [← decode_encode i [], hencode, decode_encode]
  exact (Decoded.instr.inj hdecode).1

end Sys2Proof

/-! ## The halves of a word and the flags byte, in numbers -/

namespace Sys2Proof.Claim

open Sys2Proof.Machine

theorem hi8_eq_byte (w : Word) : hi8 w = byte (w.toNat / 256) := by
  apply BitVec.eq_of_toNat_eq
  have := w.isLt
  rw [toNat_hi8, byte, BitVec.toNat_ofNat]
  omega

theorem lo8_eq_byte (w : Word) : lo8 w = byte (w.toNat % 256) := by
  apply BitVec.eq_of_toNat_eq
  rw [toNat_lo8, byte, BitVec.toNat_ofNat]
  omega

theorem join_eq_word (hi lo : Byte) : join hi lo = word hi lo := by
  apply BitVec.eq_of_toNat_eq
  have := (join hi lo).isLt
  rw [toNat_join] at this
  rw [toNat_join, word, BitVec.toNat_ofNat, Nat.mod_eq_of_lt this]

theorem toByte_eq_flagsByte (f : Flags) : f.toByte = flagsByte f := by
  obtain ⟨s, z, ac, p, cy⟩ := f
  revert s z ac p cy
  decide

end Sys2Proof.Claim

/-! ## What the effects of the forms leave unchanged -/

namespace Sys2Proof.Machine

open Sys2Proof.Claim

/-- A form in neither column of R26's table changes no flag. -/
theorem State.effect_flags (s : State) {f : Form} (hresult : writesResultFlags f = false)
    (hcarry : writesCarry f = false) : (s.effect f).flags = s.flags := by
  cases f
  case alu | aluM | aluI | daa | inr | inrM | dcr | dcrM => cases hresult
  case dad | rlc | rrc | ral | rar | stc | cmc => cases hcarry
  case mov => exact State.setReg_flags _ _ _
  case movFromM => exact State.setReg_flags _ _ _
  case mvi => exact State.setReg_flags _ _ _
  case lxi => exact State.setPair_flags _ _ _
  case inx => exact State.setPair_flags _ _ _
  case dcx => exact State.setPair_flags _ _ _
  case pop p =>
    cases p
    case psw => cases hresult
    all_goals rfl
  case jcc => simp only [State.effect, State.jumpIf]; split <;> rfl
  case ccc => simp only [State.effect, State.callIf]; split <;> rfl
  case rcc => simp only [State.effect, State.retIf]; split <;> rfl
  case out => exact State.portWrite_flags _ _ _
  all_goals rfl

/-- A form outside the table's rows for S, Z, AC and P changes at most CY (R26): DAD, the rotates, STC and CMC write CY
alone. -/
theorem State.effect_flags_but_carry (s : State) {f : Form} (h : writesResultFlags f = false) :
    (s.effect f).flags = { s.flags with cy := (s.effect f).flags.cy } := by
  by_cases hcarry : writesCarry f = false
  · rw [s.effect_flags h hcarry]
  · cases f
    case dad | rlc | rrc | ral | rar | stc | cmc => rfl
    case pop p =>
      cases p
      case psw => cases h
      all_goals exact absurd rfl hcarry
    case alu | aluM | aluI | daa => cases h
    all_goals exact absurd rfl hcarry

/-- A form outside the table's rows for CY keeps CY (R26): INR and DCR write the other four flags alone. -/
theorem State.effect_carry (s : State) {f : Form} (h : writesCarry f = false) :
    (s.effect f).flags.cy = s.flags.cy := by
  by_cases hresult : writesResultFlags f = false
  · rw [s.effect_flags hresult h]
  · cases f
    case inr | inrM | dcr | dcrM => rfl
    case pop p =>
      cases p
      case psw => cases h
      all_goals exact absurd rfl hresult
    case alu | aluM | aluI | daa => cases h
    all_goals exact absurd rfl hresult

/-- No form but EI and DI reads or writes INTE (R28): its effect and a change of INTE may change places. -/
theorem State.effect_setInte (s : State) (on : Bool) {f : Form} (hei : f ≠ .ei) (hdi : f ≠ .di) :
    (s.setInte on).effect f = (s.effect f).setInte on := by
  cases f
  case ei => exact absurd rfl hei
  case di => exact absurd rfl hdi
  case alu op src => cases op <;> cases src <;> rfl
  case aluM op => cases op <;> rfl
  case aluI op _ => cases op <;> rfl
  case mov dst src => cases dst <;> cases src <;> rfl
  case movToM src => cases src <;> rfl
  case movFromM dst => cases dst <;> rfl
  case mvi dst _ => cases dst <;> rfl
  case inr r => cases r <;> rfl
  case dcr r => cases r <;> rfl
  case lxi p _ => cases p <;> rfl
  case inx p => cases p <;> rfl
  case dcx p => cases p <;> rfl
  case dad p => cases p <;> rfl
  case ldax p => cases p <;> rfl
  case stax p => cases p <;> rfl
  case push p => cases p <;> rfl
  case pop p => cases p <;> rfl
  case jcc => simp only [State.effect, State.jumpIf, apply_ite (State.setInte · on)]; rfl
  case ccc => simp only [State.effect, State.callIf, apply_ite (State.setInte · on)]; rfl
  case rcc => simp only [State.effect, State.retIf, apply_ite (State.setInte · on)]; rfl
  case out => simp only [State.effect, State.portWrite, apply_ite (State.setInte · on)]; rfl
  all_goals rfl

/-- Only EI and DI change INTE (R28). -/
theorem State.effect_inte (s : State) {f : Form} (hei : f ≠ .ei) (hdi : f ≠ .di) : (s.effect f).inte = s.inte := by
  have hsame : s.effect f = (s.effect f).setInte s.inte := s.effect_setInte s.inte hei hdi
  calc (s.effect f).inte = ((s.effect f).setInte s.inte).inte := congrArg State.inte hsame
    _ = s.inte := rfl

/-- The state of the port bridge: the two latches (R31) and the shifter (R32). -/
def State.bridge (s : State) : Byte × Byte × BitVec 16 × BitVec 3 := (s.port1, s.port2, s.shiftReg, s.shiftOffset)

/-- Only OUT changes the port bridge (R242). -/
theorem State.effect_bridge (s : State) {f : Form} (h : ∀ port, f ≠ .out port) : (s.effect f).bridge = s.bridge := by
  cases f
  case out port => exact absurd rfl (h port)
  case inrM => simp only [State.effect, State.inrMem, State.storeM, State.store, State.bridge]
  case dcrM => simp only [State.effect, State.dcrMem, State.storeM, State.store, State.bridge]
  case alu op _ => cases op <;> rfl
  case aluM op => cases op <;> rfl
  case aluI op _ => cases op <;> rfl
  case mov dst _ => cases dst <;> rfl
  case movFromM dst => cases dst <;> rfl
  case mvi dst _ => cases dst <;> rfl
  case inr r => cases r <;> rfl
  case dcr r => cases r <;> rfl
  case lxi p _ => cases p <;> rfl
  case inx p => cases p <;> rfl
  case dcx p => cases p <;> rfl
  case pop p => cases p <;> rfl
  case jcc => simp only [State.effect, State.jumpIf]; split <;> rfl
  case ccc => simp only [State.effect, State.callIf]; split <;> rfl
  case rcc => simp only [State.effect, State.retIf]; split <;> rfl
  all_goals rfl

/-- OUT writes the shift data on its own port only (R247). -/
theorem State.portWrite_shiftReg (s : State) {port : Byte} (v : Byte) (h : port ≠ Config.portShiftData) :
    (s.portWrite port v).shiftReg = s.shiftReg := by
  rw [State.portWrite, if_neg h]
  split <;> rfl

/-- OUT writes the shift offset on its own port only (R248). -/
theorem State.portWrite_shiftOffset (s : State) {port : Byte} (v : Byte) (h : port ≠ Config.portShiftOffset) :
    (s.portWrite port v).shiftOffset = s.shiftOffset := by
  rw [State.portWrite, if_neg h]
  split <;> rfl

/-- What the form of an instruction can do to the port bridge (R31, R32, R242): nothing to the latches, and to the shifter
only by OUT on its two ports. -/
theorem effect_bridge_cases (s : State) (i : Instr) :
    (s.effect i.form).port1 = s.port1 ∧ (s.effect i.form).port2 = s.port2 ∧
    (i ≠ .outPort Config.portShiftData → (s.effect i.form).shiftReg = s.shiftReg) ∧
    (i ≠ .outPort Config.portShiftOffset → (s.effect i.form).shiftOffset = s.shiftOffset) := by
  by_cases hout : ∃ port, i.form = .out port
  · obtain ⟨port, hform⟩ := hout
    obtain rfl : i = .outPort port := form_injective hform
    refine ⟨s.portWrite_port1 port s.a, s.portWrite_port2 port s.a, fun h => ?_, fun h => ?_⟩
    · exact s.portWrite_shiftReg s.a fun hport => h (by rw [hport])
    · exact s.portWrite_shiftOffset s.a fun hport => h (by rw [hport])
  · have hbridge := s.effect_bridge (f := i.form) fun port hform => hout ⟨port, hform⟩
    simp only [State.bridge, Prod.mk.injEq] at hbridge
    obtain ⟨hport1, hport2, hreg, hoffset⟩ := hbridge
    exact ⟨hport1, hport2, fun _ => hreg, fun _ => hoffset⟩

/-- Every effect keeps the invariant: no form writes a decode error (R270). -/
theorem State.Inv.effect {s : State} (h : s.Inv) (f : Form) : (s.effect f).Inv := by
  obtain ⟨hmem, hrun⟩ := h
  refine ⟨State.effect_wf hmem f, ?_⟩
  by_cases hhlt : f = .hlt
  · subst hhlt
    rfl
  · rw [s.effect_run f hhlt]
    exact hrun

/-! ## The obligations about the state -/

/-- Settles O48: the constructed memory is the empty list, and the core is running. -/
theorem constructedCoreIsSound : Obligations.ConstructedCoreIsSound := ⟨rfl, rfl⟩

/-- Settles O49: a step of a running core is the effect of one instruction, which keeps the invariant; any other core keeps
its state. -/
theorem stepKeepsTheInvariant : Obligations.StepKeepsTheInvariant := by
  unfold Obligations.StepKeepsTheInvariant
  intro s t hinv hstep
  by_cases hrun : s.run = .running
  · obtain ⟨i, -, hi⟩ := step_running hrun
    obtain rfl : (s.past i).effect i.form = t := Host.Outcome.next.inj (hi.symm.trans hstep)
    have hpast : (s.past i).Inv := hinv
    exact hpast.effect i.form
  · obtain rfl : s = t := Host.Outcome.next.inj ((step_not_running hrun).symm.trans hstep)
    exact hinv

/-- Settles O10: a pair is the number its halves make, and the halves of a word are its quotient and remainder by 256. -/
theorem pairsAreViewsOfTheirHalves : Obligations.PairsAreViewsOfTheirHalves := by
  unfold Obligations.PairsAreViewsOfTheirHalves
  intro s v w
  have hwrite : hi8 w = byte (w.toNat / 256) ∧ lo8 w = byte (w.toNat % 256) := ⟨hi8_eq_byte w, lo8_eq_byte w⟩
  have hpsw : s.stackView .psw = word s.a (flagsByte s.flags) := by
    rw [State.stackView, toByte_eq_flagsByte, join_eq_word]
  simp only [State.setPair, hwrite, hpsw, and_self, and_true]
  exact ⟨toNat_join _ _, toNat_join _ _, toNat_join _ _, rfl, toNat_join _ _, toNat_join _ _, toNat_join _ _,
    toNat_join _ _, toNat_join _ _, toNat_join _ _⟩

/-- Settles O51: every instruction has its form's effect, which keeps CY, or all flags but CY, outside the table's rows. -/
theorem flagsChangeOnlyWhereTheTableSays : Obligations.FlagsChangeOnlyWhereTheTableSays := by
  unfold Obligations.FlagsChangeOnlyWhereTheTableSays
  intro i s t hexec
  obtain rfl : s.effect i.form = t := Host.Outcome.next.inj ((exec_eq i s).symm.trans hexec)
  refine ⟨fun hresult => ?_, s.effect_carry⟩
  rw [s.effect_flags_but_carry hresult]
  exact ⟨rfl, rfl, rfl, rfl⟩

/-- Settles O52: every instruction completes with its form's effect, and each piece of the control state has its frame
lemma. -/
theorem controlStateHasItsWritersOnly : Obligations.ControlStateHasItsWritersOnly := by
  unfold Obligations.ControlStateHasItsWritersOnly
  intro i s
  obtain ⟨hport1, hport2, hreg, hoffset⟩ := effect_bridge_cases s i
  refine ⟨s.effect i.form, exec_eq i s, hport1, hport2, fun hei hdi => ?_, fun hhlt => ?_, hreg, hoffset⟩
  · exact s.effect_inte (form_injective.ne hei) (form_injective.ne hdi)
  · exact s.effect_run i.form (form_injective.ne hhlt)

/-- Settles O55: a change of INTE passes through every instruction but EI and DI, and those two write INTE themselves. -/
theorem interruptEnableIsNotRead : Obligations.InterruptEnableIsNotRead := by
  unfold Obligations.InterruptEnableIsNotRead
  intro i s b
  refine ⟨s.effect i.form, exec_eq i s, ?_⟩
  by_cases hei : i = .ei
  · subst hei
    exact ⟨true, rfl, fun h => absurd rfl h⟩
  · by_cases hdi : i = .di
    · subst hdi
      exact ⟨false, rfl, fun _ h => absurd rfl h⟩
    · have hcommute := s.effect_setInte b (form_injective.ne hei) (form_injective.ne hdi)
      exact ⟨b, (exec_eq i (s.setInte b)).trans (congrArg Host.Outcome.next hcommute), fun _ _ => rfl⟩

/-- Settles O46: a stop request and an interrupt request test for a running core, and outside it a step does nothing. -/
theorem stopAndTerminalStates : Obligations.StopAndTerminalStates := by
  unfold Obligations.StopAndTerminalStates
  intro s
  constructor
  · intro hrun
    exact if_pos hrun
  · intro hrun
    have hinterrupt : ∀ n, s.interruptRequest n = s := fun n => if_neg fun h => hrun h.1
    exact ⟨step_not_running hrun, if_neg hrun, hinterrupt, fun k v => by cases k <;> rfl, rfl⟩

/-- Settles O56: Reset is the constructed state with the bridge kept, and the constructed memory reads zero. -/
theorem resetAndConstructionValues : Obligations.ResetAndConstructionValues := by
  unfold Obligations.ResetAndConstructionValues
  constructor
  · intro s
    exact ⟨rfl, rfl, rfl, rfl, rfl, rfl, rfl, rfl, rfl, rfl, rfl, rfl, Memory.read_nil, rfl, rfl, rfl, rfl⟩
  · rfl

end Sys2Proof.Machine

/-! ## Reads after many writes, and memories that read alike -/

namespace Sys2Proof.Claim

open Sys2Proof.Machine

theorem writeAll_concat (m : Memory) (ws : List (Word × Byte)) (w : Word × Byte) :
    writeAll m (ws ++ [w]) = (writeAll m ws).write w.1 w.2 := by
  simp [writeAll]

/-- The last write to an address decides what it reads, and an address not written keeps its byte (R50). -/
theorem read_writeAll (m : Memory) (ws : List (Word × Byte)) (y : Word) :
    (writeAll m ws).read y = (ws.reverse.find? (fun w => w.1 == y)).elim (m.read y) Prod.snd := by
  induction ws using List.reverseRecOn with
  | nil => rfl
  | append_singleton ws w ih =>
    rw [writeAll_concat, Memory.read_write, List.reverse_concat, List.find?_cons, ih]
    by_cases hy : y = w.1
    · simp [hy]
    · have hw : (w.1 == y) = false := beq_false_of_ne (Ne.symm hy)
      rw [if_neg hy, hw]

/-- Writes one after another keep the canonical form. -/
theorem wf_writeAll {m : Memory} (h : m.wf = true) (ws : List (Word × Byte)) : (writeAll m ws).wf = true := by
  induction ws generalizing m with
  | nil => exact h
  | cons w ws ih => exact ih (Memory.wf_write h w.1 w.2)

end Sys2Proof.Claim

namespace Sys2Proof.Machine

open Sys2Proof.Claim

/-- Canonical memories that hold the same bytes are the same list (log 11). -/
theorem Memory.eq_of_read {m m' : Memory} (hm : m.wf = true) (hm' : m'.wf = true) (h : ∀ x, m.read x = m'.read x) :
    m = m' := by
  refine Memory.eq_of_byteAt hm hm' fun k hk => ?_
  have hread := h (BitVec.ofNat 16 k)
  rwa [Memory.read, Memory.read, BitVec.toNat_ofNat, Nat.mod_eq_of_lt hk] at hread

/-- After writes to two different addresses, in either order, every address reads the same. -/
theorem Memory.read_write_comm (m : Memory) {x y : Word} (hxy : x ≠ y) (u v : Byte) (z : Word) :
    ((m.write x u).write y v).read z = ((m.write y v).write x u).read z := by
  simp only [Memory.read_write]
  split
  · next hz => rw [if_neg (hz ▸ hxy.symm)]
  · rfl

/-! ## The step at bytes in memory, and the length of an encoding -/

/-- An encoding has as many bytes as its instruction's format (R81). -/
theorem length_encode (i : Instr) : (encode i).length = i.length := by
  unfold encode Instr.length
  cases i.form <;> rfl

/-- A running core runs the instruction whose bytes stand at PC (R8, R271). -/
theorem step_of_holds {s : State} {i : Instr} (hrun : s.run = .running) (h : s.Holds i) : step s = exec i (s.past i) := by
  obtain ⟨rest, hdecode⟩ := h.decode_window
  exact step_of_decode_window hrun hdecode

theorem encode_sta (w : Word) : encode (.sta w) = 0x32#8 :: lowHigh w := by
  rw [lowHigh, ← lo8_eq_byte, ← hi8_eq_byte]
  rfl

/-- A one-byte instruction stands at PC when its byte is the one there. -/
theorem State.holds_of_encode_singleton {s : State} {i : Instr} {b : Byte} (henc : encode i = [b])
    (hread : s.mem.read s.pc = b) : s.Holds i := by
  intro k c hk
  rw [henc] at hk
  match k with
  | 0 => simpa [hread] using hk
  | k + 1 => simp at hk

/-! ## The writers of memory, SP and PC -/

theorem State.setPair_sp_of_ne (s : State) {p : Pair} (h : p ≠ .sp) (w : Word) : (s.setPair p w).sp = s.sp := by
  rw [State.setPair_sp, if_neg h]

theorem State.aluEffect_mem (s : State) (op : AluOp) (v : Byte) : (s.aluEffect op v).mem = s.mem := by cases op <;> rfl
theorem State.aluEffect_sp (s : State) (op : AluOp) (v : Byte) : (s.aluEffect op v).sp = s.sp := by cases op <;> rfl
theorem State.aluEffect_pc (s : State) (op : AluOp) (v : Byte) : (s.aluEffect op v).pc = s.pc := by cases op <;> rfl

/-- What a form can do to memory (R56), SP (R23) and PC (R24), form by form: each of the three is written only by the forms
the rules list. -/
theorem State.effect_mem_sp_pc (s : State) (f : Form) :
    (writesMemory f = false → (s.effect f).mem = s.mem) ∧ (writesSp f = false → (s.effect f).sp = s.sp) ∧
    (writesPc f = false → (s.effect f).pc = s.pc) := by
  cases f
  case movToM | mviM | sta | stax | shld | xthl => exact ⟨nofun, fun _ => rfl, fun _ => rfl⟩
  case inrM | dcrM =>
    simp only [State.effect, State.inrMem, State.dcrMem, State.storeM, State.store_sp, State.store_pc]
    exact ⟨nofun, fun _ => trivial, fun _ => trivial⟩
  case push => exact ⟨nofun, nofun, fun _ => rfl⟩
  case call | ccc | rst => exact ⟨nofun, nofun, nofun⟩
  case ret => exact ⟨fun _ => rfl, nofun, nofun⟩
  case rcc => exact ⟨fun _ => by simp only [State.effect, State.retIf]; split <;> rfl, nofun, nofun⟩
  case pop => exact ⟨fun _ => State.setStackView_mem _ _ _, nofun, fun _ => State.setStackView_pc _ _ _⟩
  case sphl => exact ⟨fun _ => rfl, nofun, fun _ => rfl⟩
  case jmp | pchl => exact ⟨fun _ => rfl, fun _ => rfl, nofun⟩
  case jcc =>
    simp only [State.effect, State.jumpIf]
    exact ⟨fun _ => by split <;> rfl, fun _ => by split <;> rfl, nofun⟩
  case lxi p _ | inx p | dcx p =>
    refine ⟨fun _ => State.setPair_mem _ _ _, fun h => State.setPair_sp_of_ne _ ?_ _, fun _ => State.setPair_pc _ _ _⟩
    rintro rfl
    cases h
  case mov | movFromM | mvi | inr | dcr =>
    exact ⟨fun _ => State.setReg_mem _ _ _, fun _ => State.setReg_sp _ _ _, fun _ => State.setReg_pc _ _ _⟩
  case alu | aluM | aluI =>
    exact ⟨fun _ => s.aluEffect_mem _ _, fun _ => s.aluEffect_sp _ _, fun _ => s.aluEffect_pc _ _⟩
  case out => exact ⟨fun _ => s.portWrite_mem _ _, fun _ => s.portWrite_sp _ _, fun _ => s.portWrite_pc _ _⟩
  all_goals exact ⟨fun _ => rfl, fun _ => rfl, fun _ => rfl⟩

/-! ## The obligations about memory -/

/-- Settles O7: the last write to an address decides what it reads, and the memory Reset leaves lists nothing. -/
theorem readGivesTheLastWrite : Obligations.ReadGivesTheLastWrite := by
  unfold Obligations.ReadGivesTheLastWrite
  constructor
  · intro m ws y
    rw [read_writeAll]
    cases ws.reverse.find? (fun w => w.1 == y) <;> rfl
  · intro s x
    exact Memory.read_nil x

/-- Settles O8: memories in canonical form are determined by their reads, and two writes to different addresses read alike in
either order. -/
theorem memoryFormIsCanonical : Obligations.MemoryFormIsCanonical := by
  unfold Obligations.MemoryFormIsCanonical
  refine ⟨fun m ws hm => wf_writeAll hm ws, fun m m' => Memory.eq_of_read, fun m x y u v hm hxy => ?_⟩
  have hwf (a b : Word) (c d : Byte) : ((m.write a c).write b d).wf = true := Memory.wf_write (Memory.wf_write hm a c) b d
  exact Memory.eq_of_read (hwf x y u v) (hwf y x v u) (Memory.read_write_comm m hxy u v)

/-- Settles O9: a word is joined from its two bytes, and two byte stores are the store of the joined word. -/
theorem wordsAreTwoBytes : Obligations.WordsAreTwoBytes := by
  unfold Obligations.WordsAreTwoBytes
  refine ⟨fun m x => toNat_join _ _, fun m x w y => ?_, fun m x lo hi => ?_⟩
  · rw [Memory.read_write16, lo8_eq_byte, hi8_eq_byte]
  · have hstore : (m.write x lo).write (x + 1#16) hi = m.write16 x (join hi lo) := by simp [Memory.write16]
    rw [hstore, Memory.read16_write16, join_eq_word]

/-- Settles O37: STA stores the byte at the address its own fetch leaves PC at, so the next fetch reads that byte. -/
theorem storeIsSeenByTheNextFetch : Obligations.StoreIsSeenByTheNextFetch := by
  unfold Obligations.StoreIsSeenByTheNextFetch
  intro s i hrun hbytes henc
  rw [← encode_sta] at hbytes
  have hsta : s.Holds (.sta (s.pc + 3#16)) := hbytes
  let t := (s.past (.sta (s.pc + 3#16))).store (s.pc + 3#16) s.a
  have hread : t.mem.read t.pc = s.a := Memory.read_write_same _ _ _
  have hlength : i.length = 1 := by rw [← length_encode, henc, List.length_singleton]
  have hpc : t.pc + BitVec.ofNat 16 i.length = s.pc + 4#16 := by
    rw [hlength]
    exact BitVec.add_assoc s.pc 3#16 1#16
  refine ⟨t, step_of_holds hrun hsta, rfl, ?_⟩
  have hholds : t.Holds i := State.holds_of_encode_singleton henc hread
  rw [step_of_holds (s := t) hrun hholds, State.past, hpc]

/-- Settles O53: every instruction has its form's effect, which writes memory, SP and PC only where the rules list it. -/
theorem memorySpAndPcHaveTheirWritersOnly : Obligations.MemorySpAndPcHaveTheirWritersOnly := by
  unfold Obligations.MemorySpAndPcHaveTheirWritersOnly
  intro i s t hexec
  obtain rfl : s.effect i.form = t := Host.Outcome.next.inj ((exec_eq i s).symm.trans hexec)
  exact s.effect_mem_sp_pc i.form

end Sys2Proof.Machine

/-! ## What a list of bytes decodes to -/

namespace Sys2Proof

open Sys2Proof.Machine Sys2Proof.Claim

/-- All the decoder can answer to a list with an opcode byte (R94, R95): the list starts with an instruction's encoding, or
it ends inside its first instruction. -/
theorem encode_prefix_or_truncated (op : Byte) (tail : List Byte) :
    (∃ i rest, op :: tail = encode i ++ rest) ∨ decode (op :: tail) = .truncated op := by
  cases h : tableRow op with
  | none => exact absurd h (tableRow_ne_none op)
  | some row =>
    cases row with
    | bare i => exact .inl ⟨i, tail, by rw [(encode_bare h).1]; rfl⟩
    | imm8 f =>
      match tail with
      | [] => exact .inr (by simp [decode, h])
      | v :: rest => exact .inl ⟨f v, rest, by rw [(encode_imm8 h v).1]; rfl⟩
    | imm16 f =>
      match tail with
      | [] | [_] => exact .inr (by simp [decode, h])
      | lo :: hi :: rest => exact .inl ⟨f (join hi lo), rest, by simp [(encode_imm16 h _).1]⟩

/-- The decoder answers an instruction exactly where the instruction's encoding stands first (R94). -/
theorem decode_eq_instr_iff {bytes : List Byte} {i : Instr} {rest : List Byte} :
    decode bytes = .instr i rest ↔ bytes = encode i ++ rest := by
  refine ⟨fun h => ?_, fun h => by rw [h, decode_encode]⟩
  match bytes with
  | [] => cases h
  | op :: tail =>
    obtain ⟨j, after, hj⟩ | htruncated := encode_prefix_or_truncated op tail
    · rw [hj, decode_encode] at h
      obtain ⟨rfl, rfl⟩ := Decoded.instr.inj h
      exact hj
    · cases htruncated.symm.trans h

/-- An instruction is read the same way with more bytes after it. -/
theorem decode_append {bytes rest : List Byte} {i : Instr} (h : decode bytes = .instr i rest) (more : List Byte) :
    decode (bytes ++ more) = .instr i (rest ++ more) := by
  rw [decode_eq_instr_iff] at h ⊢
  rw [h, List.append_assoc]

/-! ## The length of an opcode -/

/-- R83's lists give every opcode byte the length of its instruction's format (R80, R81). -/
theorem opcodeLength_opcode (i : Instr) : opcodeLength i.form.opcode = i.length := by
  cases i <;> rfl

/-- The first byte of an instruction tells its length (R83). -/
theorem length_eq_of_encode_prefix {op : Byte} {tail rest : List Byte} {i : Instr} (h : op :: tail = encode i ++ rest) :
    i.length = opcodeLength op := by
  rw [(List.cons.inj h).1, opcodeLength_opcode]

/-! ## The undocumented bytes -/

/-- R93's list holds the bytes of the undocumented no-operations. -/
theorem mem_undocumentedBytes_iff {op : Byte} : op ∈ undocumentedBytes ↔ ∃ u : Undocumented, u.byte = op := by
  constructor
  · intro h
    simp only [undocumentedBytes, List.mem_cons, List.not_mem_nil, or_false] at h
    obtain rfl | rfl | rfl | rfl | rfl | rfl | rfl | rfl | rfl | rfl | rfl | rfl := h
    exacts [⟨.u08, rfl⟩, ⟨.u10, rfl⟩, ⟨.u18, rfl⟩, ⟨.u20, rfl⟩, ⟨.u28, rfl⟩, ⟨.u30, rfl⟩, ⟨.u38, rfl⟩, ⟨.uCB, rfl⟩,
      ⟨.uD9, rfl⟩, ⟨.uDD, rfl⟩, ⟨.uED, rfl⟩, ⟨.uFD, rfl⟩]
  · rintro ⟨u, rfl⟩
    cases u <;> decide

/-- An undocumented no-operation is its one byte (R93). -/
theorem encode_of_form_undocumented {i : Instr} {u : Undocumented} (h : i.form = .undocumented u) : encode i = [u.byte] := by
  rw [encode, h]
  rfl

/-! ## The obligations about the encoding -/

/-- Settles O2: the decoder inverts the encoder, whatever bytes follow. -/
theorem decodeAfterEncode : Obligations.DecodeAfterEncode := by
  unfold Obligations.DecodeAfterEncode
  exact decode_encode

/-- Settles O3: every list that decodes starts with an encoding, and that encoding decodes to one instruction. -/
theorem encodeAfterDecode : Obligations.EncodeAfterDecode := by
  unfold Obligations.EncodeAfterDecode
  exact fun _ _ _ => decode_eq_instr_iff.mp

/-- Settles O4: a list that is long enough starts with an encoding, whose first byte tells its length; a shorter list has no
room for one. -/
theorem everyOpcodeDecodesAtItsLength : Obligations.EveryOpcodeDecodesAtItsLength := by
  unfold Obligations.EveryOpcodeDecodesAtItsLength
  refine ⟨fun op x y rest => ?_, fun op tail hshort => ?_, fun bytes op hnoRow => ?_⟩
  · obtain ⟨i, after, hthree⟩ := decode_three op x y
    have hdecode : decode (op :: x :: y :: rest) = .instr i (after ++ rest) := decode_append hthree rest
    have hbytes := decode_eq_instr_iff.mp hdecode
    have hlength := length_eq_of_encode_prefix hbytes
    have hoperands : i.form.operands.length = opcodeLength op - 1 := by
      rw [← hlength, ← length_encode]
      rfl
    have htail : x :: y :: rest = i.form.operands ++ (after ++ rest) := (List.cons.inj hbytes).2
    refine ⟨i, hlength, ?_⟩
    rw [hdecode, htail, ← hoperands, List.drop_left]
  · obtain ⟨i, rest, hi⟩ | htruncated := encode_prefix_or_truncated op tail
    · have hroom := congrArg List.length hi
      rw [List.length_cons, List.length_append, length_encode, length_eq_of_encode_prefix hi] at hroom
      omega
    · exact htruncated
  · match bytes with
    | [] => cases hnoRow
    | first :: tail =>
      obtain ⟨i, rest, hi⟩ | htruncated := encode_prefix_or_truncated first tail
      · cases (decode_eq_instr_iff.mpr hi).symm.trans hnoRow
      · cases htruncated.symm.trans hnoRow

/-- Settles O5: an undocumented no-operation is its one byte, and R93's list holds those bytes. -/
theorem undocumentedBytesAreTheTwelve : Obligations.UndocumentedBytesAreTheTwelve := by
  unfold Obligations.UndocumentedBytesAreTheTwelve
  intro op rest
  rw [mem_undocumentedBytes_iff]
  constructor
  · rintro ⟨i, u, hform, hdecode⟩
    have hbytes := decode_eq_instr_iff.mp hdecode
    rw [encode_of_form_undocumented hform] at hbytes
    exact ⟨u, (List.cons.inj hbytes).1.symm⟩
  · rintro ⟨u, rfl⟩
    obtain ⟨i, hform⟩ := form_onto (.undocumented u)
    refine ⟨i, u, hform, decode_eq_instr_iff.mpr ?_⟩
    rw [encode_of_form_undocumented hform]
    rfl

/-- Settles O1: each word is its instruction's encoding. -/
theorem wordsOfTheSpecDecode : Obligations.WordsOfTheSpecDecode := by
  unfold Obligations.WordsOfTheSpecDecode
  exact ⟨decode_encode .movBC [], decode_encode (.lxiH 0x0103#16) [], decode_encode .addD [], decode_encode (.cpi 0x40#8) [],
    decode_encode .pushPsw [], decode_encode (.jc 0x2000#16) [], decode_encode (.inPort 0x01#8) [], decode_encode .hlt [],
    decode_encode .nopCB [0x34#8, 0x12#8]⟩

end Sys2Proof

/-! ## Opcode bytes in numbers, and encodings from forms -/

namespace Sys2Proof.Claim

open Sys2Proof.Machine

theorem toNat_regCode (r : Reg) : r.code.toNat = regNumber r := by cases r <;> rfl

theorem toNat_pairCode (p : Pair) : p.code.toNat = pairNumber p := by cases p <;> rfl

theorem toNat_indexPairCode (p : IndexPair) : p.code.toNat = indexNumber p := by cases p <;> rfl

/-- The bits 7..6, 5..3 and 2..0 of an opcode byte as digits (R82). -/
theorem opcode233_eq_byte (group : BitVec 2) (mid low : BitVec 3) :
    opcode233 group mid low = byte (64 * group.toNat + 8 * mid.toNat + low.toNat) := by
  revert group mid low
  decide

/-- The bits 7..6, 5..4 and 3..0 of an opcode byte as digits (R82). -/
theorem opcode224_eq_byte (group rp : BitVec 2) (low : BitVec 4) :
    opcode224 group rp low = byte (64 * group.toNat + 16 * rp.toNat + low.toNat) := by
  revert group rp low
  decide

/-- The bits 7..5, 4 and 3..0 of an opcode byte as digits (R82). -/
theorem opcode314_eq_byte (high : BitVec 3) (p : BitVec 1) (low : BitVec 4) :
    opcode314 high p low = byte (32 * high.toNat + 16 * p.toNat + low.toNat) := by
  revert high p low
  decide

/-- The encoder's immediate bytes of a 16-bit operand are the low and the high one, in numbers (R81, R88). -/
theorem lo8_hi8_eq_lowHigh (w : Word) : [lo8 w, hi8 w] = lowHigh w := by
  rw [lowHigh, ← lo8_eq_byte, ← hi8_eq_byte]

/-- An instruction of a form is encoded as the form's opcode byte and operands, and those bytes decode to it. -/
theorem encodedAs_of_form {i : Instr} {f : Form} {op : Byte} {operands : List Byte} (hform : i.form = f)
    (hop : f.opcode = op) (hoperands : f.operands = operands) : EncodedAs i (op :: operands) := by
  subst hform hop hoperands
  exact ⟨rfl, decode_encode i⟩

/-! ## The opcode bytes of the data transfers (R89, R90) -/

theorem opcode_mov (dst src : Reg) :
    (Form.mov dst src).opcode = byte (0x40 + 8 * regNumber dst + regNumber src) := by
  rw [Form.opcode, opcode233_eq_byte, toNat_regCode, toNat_regCode]
  rfl

theorem opcode_movFromM (dst : Reg) : (Form.movFromM dst).opcode = byte (0x46 + 8 * regNumber dst) := by
  rw [Form.opcode, opcode233_eq_byte, toNat_regCode, Nat.add_right_comm]
  rfl

theorem opcode_movToM (src : Reg) : (Form.movToM src).opcode = byte (0x70 + regNumber src) := by
  rw [Form.opcode, opcode233_eq_byte, toNat_regCode]
  rfl

theorem opcode_mvi (dst : Reg) (v : Byte) : (Form.mvi dst v).opcode = byte (0x06 + 8 * regNumber dst) := by
  rw [Form.opcode, opcode233_eq_byte, toNat_regCode, Nat.add_right_comm]
  rfl

theorem opcode_lxi (p : Pair) (w : Word) : (Form.lxi p w).opcode = byte (0x01 + 16 * pairNumber p) := by
  rw [Form.opcode, opcode224_eq_byte, toNat_pairCode, Nat.add_right_comm]
  rfl

theorem opcode_ldax (p : IndexPair) : (Form.ldax p).opcode = byte (0x0A + 16 * indexNumber p) := by
  rw [Form.opcode, opcode314_eq_byte, toNat_indexPairCode, Nat.add_right_comm]
  rfl

theorem opcode_stax (p : IndexPair) : (Form.stax p).opcode = byte (0x02 + 16 * indexNumber p) := by
  rw [Form.opcode, opcode314_eq_byte, toNat_indexPairCode, Nat.add_right_comm]
  rfl

/-! ## What a register write and a store do to the whole state -/

theorem addressM_eq_addressHL (s : State) : s.addressM = addressHL s := join_eq_word s.h s.l

/-- A register write changes that register and nothing else (R21). -/
theorem onlyRegisters_setReg (s : State) (r : Reg) (v : Byte) : OnlyRegisters s (s.setReg r v) := by
  cases r <;> rfl

/-- An instruction that writes one register completes, gives it the value and changes nothing else. -/
theorem writes_of_exec_setReg {i : Instr} {s : State} {r : Reg} {v : Byte} (h : exec i s = .next (s.setReg r v)) :
    ∃ t, exec i s = .next t ∧ OnlyRegisters s t ∧ ∀ q, t.reg q = if q = r then v else s.reg q :=
  ⟨s.setReg r v, h, onlyRegisters_setReg s r v, fun q => s.reg_setReg r q v⟩

/-- An instruction that stores one byte completes and changes nothing but that byte of memory. -/
theorem stores_of_exec_store {i : Instr} {s : State} {x : Word} {v : Byte} (h : exec i s = .next (s.store x v)) :
    ∃ t, exec i s = .next t ∧ t = { s with mem := t.mem } ∧ StoresByte s t x v :=
  ⟨s.store x v, h, rfl, fun y => s.mem.read_write x y v⟩

/-- SHLD's store puts L at the address and H at the next one (R121). -/
theorem storesWord_storeHL (s : State) (w : Word) : StoresWord s (s.storeHL w) w s.l s.h := by
  intro y
  have hread := Memory.read_write16 s.mem w (join s.h s.l) y
  rwa [lo8_join, hi8_join] at hread

/-- LHLD takes L from the address and H from the next one (R120). -/
theorem loadHL_eq (s : State) (w : Word) :
    s.loadHL w = { s with l := s.mem.read w, h := s.mem.read (w + 1#16) } := by
  simp only [State.loadHL, State.setPair, Memory.read16, hi8_join, lo8_join]

/-- XCHG undoes itself (R124). -/
theorem exchangeDEHL_exchangeDEHL (s : State) : s.exchangeDEHL.exchangeDEHL = s := rfl

/-! ## The obligations about data transfer -/

/-- Settles O11: both instructions are one register write. -/
theorem registerMovesGiveTheSource : Obligations.RegisterMovesGiveTheSource := by
  unfold Obligations.RegisterMovesGiveTheSource
  constructor
  · intro i dst src hform
    have hbytes := encodedAs_of_form hform (opcode_mov dst src) rfl
    exact ⟨hbytes, fun s => writes_of_exec_setReg (exec_of_form hform s)⟩
  · intro i dst v hform
    have hbytes := encodedAs_of_form hform (opcode_mvi dst v) rfl
    exact ⟨hbytes, fun s => writes_of_exec_setReg (exec_of_form hform s)⟩

/-- Settles O12: each load is a register write of what memory holds at the address formed in the state before it. -/
theorem loadsReadTheAddressedByte : Obligations.LoadsReadTheAddressedByte := by
  unfold Obligations.LoadsReadTheAddressedByte
  refine ⟨fun i dst hform => ?_, fun i w hform => ?_, fun i w hform => ?_, fun i p hform => ?_⟩
  · refine ⟨encodedAs_of_form hform (opcode_movFromM dst) rfl, fun s => ?_⟩
    rw [← addressM_eq_addressHL]
    exact writes_of_exec_setReg (exec_of_form hform s)
  · exact ⟨encodedAs_of_form hform rfl (lo8_hi8_eq_lowHigh w), exec_of_form hform⟩
  · refine ⟨encodedAs_of_form hform rfl (lo8_hi8_eq_lowHigh w), fun s => ?_⟩
    rw [← loadHL_eq]
    exact exec_of_form hform s
  · refine ⟨encodedAs_of_form hform (opcode_ldax p) rfl, fun s => ?_⟩
    cases p <;> simp only [← join_eq_word] <;> exact exec_of_form hform s

/-- Settles O13: LXI writes the halves of its immediate, and a second exchange puts the four registers back. -/
theorem pairLoadsAndExchange : Obligations.PairLoadsAndExchange := by
  unfold Obligations.PairLoadsAndExchange
  refine ⟨fun i p w hform => ?_, encodedAs_of_form (i := .xchg) rfl rfl rfl, exec_eq .xchg, fun s => ?_⟩
  · refine ⟨encodedAs_of_form hform (opcode_lxi p w) (lo8_hi8_eq_lowHigh w), fun s => ?_⟩
    rw [← hi8_eq_byte, ← lo8_eq_byte, exec_of_form hform]
    cases p <;> rfl
  · exact congrArg Host.Outcome.next (exchangeDEHL_exchangeDEHL s)

/-- Settles O14: each store is a byte store, SHLD's a two-byte store, at the address formed in the state before it. -/
theorem storesWriteTheAddressedBytes : Obligations.StoresWriteTheAddressedBytes := by
  unfold Obligations.StoresWriteTheAddressedBytes
  refine ⟨fun i src hform => ?_, fun i v hform => ?_, fun i w hform => ?_, fun i w hform => ?_, fun i p hform => ?_⟩
  · refine ⟨encodedAs_of_form hform (opcode_movToM src) rfl, fun s => ?_⟩
    rw [← addressM_eq_addressHL]
    exact stores_of_exec_store (exec_of_form hform s)
  · refine ⟨encodedAs_of_form hform rfl rfl, fun s => ?_⟩
    rw [← addressM_eq_addressHL]
    exact stores_of_exec_store (exec_of_form hform s)
  · have hbytes := encodedAs_of_form hform rfl (lo8_hi8_eq_lowHigh w)
    exact ⟨hbytes, fun s => stores_of_exec_store (exec_of_form hform s)⟩
  · have hbytes := encodedAs_of_form hform rfl (lo8_hi8_eq_lowHigh w)
    exact ⟨hbytes, fun s => ⟨s.storeHL w, exec_of_form hform s, rfl, storesWord_storeHL s w⟩⟩
  · refine ⟨encodedAs_of_form hform (opcode_stax p) rfl, fun s => ?_⟩
    cases p <;> simp only [← join_eq_word] <;> exact stores_of_exec_store (exec_of_form hform s)

end Sys2Proof.Claim

/-! ## The ALU's results and flags in the statements' numbers -/

namespace Sys2Proof.Claim

open Sys2Proof.Machine

theorem toNat_byte (n : Nat) : (byte n).toNat = n % 256 := BitVec.toNat_ofNat n 8

/-- Adding up the bits of a byte is counting those that are 1 (R130). -/
theorem parity8_eq_evenOnes (v : Byte) : parity8 v = evenOnes v := by
  have hbits : List.range 8 = [0, 1, 2, 3, 4, 5, 6, 7] := rfl
  have hcount : onesCount v = (List.range 8).countP fun k => v.toNat.testBit k := by
    simp only [onesCount, hbits, List.countP_cons, List.countP_nil, BitVec.getLsbD, Bool.toNat,
      Bool.cond_eq_ite, Nat.zero_add]
    ac_rfl
  rw [parity8, evenOnes, hcount, beq_eq_decide]

/-- The model's flags of a result are the ones in numbers (R25, R130). -/
theorem resultFlags_eq_flagsOf (v : Byte) (ac cy : Bool) : resultFlags v ac cy = flagsOf v ac cy := by
  rw [flagsOf, ← resultFlags_s v ac cy, ← resultFlags_z v ac cy, ← parity8_eq_evenOnes]
  rfl

theorem addAcc_eq_added (s : State) (v : Byte) (c : Bool) : s.addAcc v c = added s v c := by
  simp only [State.addAcc, AluResult.flags, resultFlags_eq_flagsOf, add8_value, add8_ac, add8_cy]
  rfl

theorem subAcc_eq_subtracted (s : State) (v : Byte) (c : Bool) : s.subAcc v c = subtracted s v c := by
  simp only [State.subAcc, AluResult.flags, resultFlags_eq_flagsOf, sub8_value, sub8_ac, sub8_cy]
  rfl

/-! ## The two-operand instructions with every operand (R87, R91, R92) -/

theorem toNat_aluCode (op : AluOp) : op.code.toNat = aluNumber op := by cases op <;> rfl

theorem opcode_alu (op : AluOp) (r : Reg) :
    (Form.alu op r).opcode = byte (0x80 + 8 * aluNumber op + regNumber r) := by
  rw [Form.opcode, opcode233_eq_byte, toNat_aluCode, toNat_regCode]
  rfl

theorem opcode_aluM (op : AluOp) : (Form.aluM op).opcode = byte (0x80 + 8 * aluNumber op + 6) := by
  rw [Form.opcode, opcode233_eq_byte, toNat_aluCode]
  rfl

theorem opcode_aluI (op : AluOp) (v : Byte) : (Form.aluI op v).opcode = byte (0xC6 + 8 * aluNumber op) := by
  rw [Form.opcode, opcode233_eq_byte, toNat_aluCode, Nat.add_right_comm]
  rfl

/-- The form with an operand is encoded as the rules' bytes with it. -/
theorem encodedAs_of_source {src : Source} {op : AluOp} {i : Instr} (hform : i.form = src.form op) :
    EncodedAs i (src.bytes op) := by
  cases src with
  | register r => exact encodedAs_of_form hform (opcode_alu op r) rfl
  | memory => exact encodedAs_of_form hform (opcode_aluM op) rfl
  | immediate v => exact encodedAs_of_form hform (opcode_aluI op v) rfl

/-- A two-operand instruction completes with its operation's effect, whatever the kind of its operand. -/
theorem exec_of_source {src : Source} {op : AluOp} {i : Instr} {s t : State} (hform : i.form = src.form op)
    (heffect : s.aluEffect op (src.value s) = t) : exec i s = .next t := by
  subst heffect
  cases src with
  | register r => exact exec_of_form hform s
  | memory =>
    rw [Source.value, ← addressM_eq_addressHL]
    exact exec_of_form hform s
  | immediate v => exact exec_of_form hform s

/-! ## Counting a byte up and down (R146 to R149) -/

theorem opcode_inr (r : Reg) : (Form.inr r).opcode = byte (0x04 + 8 * regNumber r) := by
  rw [Form.opcode, opcode233_eq_byte, toNat_regCode, Nat.add_right_comm]
  rfl

theorem opcode_dcr (r : Reg) : (Form.dcr r).opcode = byte (0x05 + 8 * regNumber r) := by
  rw [Form.opcode, opcode233_eq_byte, toNat_regCode, Nat.add_right_comm]
  rfl

theorem add8_one_value (a : Byte) : (add8 a 0x01#8 false).value = byte (a.toNat + 1) := add8_value a 0x01#8 false

/-- Adding 1 carries out of the low nibble exactly when the nibble is 0xF. -/
theorem add8_one_flags (a : Byte) (cy : Bool) :
    (add8 a 0x01#8 false).flagsKeepingCarry cy = flagsOf (byte (a.toNat + 1)) (decide (a.toNat % 16 = 15)) cy := by
  have hac : (add8 a 0x01#8 false).ac = decide (a.toNat % 16 = 15) := by
    have hone : (0x01#8 : Byte).toNat = 1 := rfl
    rw [add8_ac, decide_eq_decide, hone, Bool.toNat_false]
    omega
  rw [AluResult.flagsKeepingCarry, resultFlags_eq_flagsOf, add8_one_value, hac]

theorem sub8_one_value (a : Byte) : (sub8 a 0x01#8 false).value = byte (a.toNat + 255) := by
  have hone : (0x01#8 : Byte).toNat = 1 := rfl
  apply BitVec.eq_of_toNat_eq
  rw [sub8_value, BitVec.toNat_ofInt, toNat_byte, hone, Bool.toNat_false]
  omega

/-- Subtracting 1 borrows into the low nibble exactly when the nibble is 0. -/
theorem sub8_one_flags (a : Byte) (cy : Bool) :
    (sub8 a 0x01#8 false).flagsKeepingCarry cy = flagsOf (byte (a.toNat + 255)) (decide (a.toNat % 16 ≠ 0)) cy := by
  have hac : (sub8 a 0x01#8 false).ac = decide (a.toNat % 16 ≠ 0) := by
    have hone : (0x01#8 : Byte).toNat = 1 := rfl
    rw [sub8_ac, decide_eq_decide, hone, Bool.toNat_false]
    omega
  rw [AluResult.flagsKeepingCarry, resultFlags_eq_flagsOf, sub8_one_value, hac]

/-- An instruction that writes one register and the flags completes and changes nothing else. -/
theorem writes_of_exec_setReg_flags {i : Instr} {s : State} {r : Reg} {v : Byte} {f : Flags}
    (h : exec i s = .next { s.setReg r v with flags := f }) :
    ∃ t, exec i s = .next t ∧ OnlyRegisters { s with flags := t.flags } t ∧
      (∀ q, t.reg q = if q = r then v else s.reg q) ∧ t.flags = f := by
  refine ⟨_, h, ?_, fun q => ?_, rfl⟩
  · cases r <;> rfl
  · rw [← s.reg_setReg r q v]
    cases q <;> rfl

/-- An instruction that stores one byte and writes the flags completes and changes nothing else. -/
theorem stores_of_exec_store_flags {i : Instr} {s : State} {x : Word} {v : Byte} {f : Flags}
    (h : exec i s = .next { s.store x v with flags := f }) :
    ∃ t, exec i s = .next t ∧ t = { s with mem := t.mem, flags := t.flags } ∧ StoresByte s t x v ∧ t.flags = f :=
  ⟨_, h, rfl, fun y => s.mem.read_write x y v, rfl⟩

/-! ## The 16-bit arithmetic (R150 to R152) -/

theorem opcode_inx (p : Pair) : (Form.inx p).opcode = byte (0x03 + 16 * pairNumber p) := by
  rw [Form.opcode, opcode224_eq_byte, toNat_pairCode, Nat.add_right_comm]
  rfl

theorem opcode_dcx (p : Pair) : (Form.dcx p).opcode = byte (0x0B + 16 * pairNumber p) := by
  rw [Form.opcode, opcode224_eq_byte, toNat_pairCode, Nat.add_right_comm]
  rfl

theorem opcode_dad (p : Pair) : (Form.dad p).opcode = byte (0x09 + 16 * pairNumber p) := by
  rw [Form.opcode, opcode224_eq_byte, toNat_pairCode, Nat.add_right_comm]
  rfl

/-- An instruction that writes one pair completes, gives it the value and changes nothing else. -/
theorem writes_of_exec_setPair {i : Instr} {s : State} {p : Pair} {w : Word} {n : Nat}
    (h : exec i s = .next (s.setPair p w)) (hw : w.toNat = n) :
    ∃ t, exec i s = .next t ∧
      t = { s with b := t.b, c := t.c, d := t.d, e := t.e, h := t.h, l := t.l, sp := t.sp } ∧
      ∀ q, (t.pair q).toNat = if q = p then n else (s.pair q).toNat := by
  refine ⟨_, h, ?_, fun q => ?_⟩
  · cases p <;> rfl
  · rw [s.pair_setPair, apply_ite BitVec.toNat, hw]

/-- DAD's sum has room for the carry out of bit 15. -/
theorem toNat_dadSum (s : State) (p : Pair) : (s.dadSum p).toNat = (s.pair .hl).toNat + (s.pair p).toNat := by
  have hhl := (s.pair .hl).isLt
  have hp := (s.pair p).isLt
  rw [State.dadSum, BitVec.toNat_add, BitVec.toNat_setWidth, BitVec.toNat_setWidth]
  omega

theorem dadSum_carry (s : State) (p : Pair) : (s.dadSum p).getLsbD 16 = decide (65536 ≤ (s.dadSum p).toNat) :=
  topBit_eq (w := 16) (s.dadSum p)

/-! ## Decimal adjust (R153) -/

theorem daaLow_iff (s : State) : daaLow s.a s.flags = true ↔ daaLowDue s := by
  simp [daaLow, daaLowDue, BitVec.extractLsb'_toNat]

theorem daaHigh_iff (s : State) : daaHigh s.a s.flags = true ↔ daaHighDue s := by
  have ha := s.a.isLt
  have hhigh : (s.a.extractLsb' 4 4).toNat = s.a.toNat / 16 := by
    rw [BitVec.extractLsb'_toNat, Nat.shiftRight_eq_div_pow]
    omega
  simp [daaHigh, daaHighDue, hhigh, BitVec.extractLsb'_toNat, or_assoc]

/-- What DAA adds to A, as a number. -/
def correction (s : State) : Nat := (daaCorrection s.a s.flags).toNat

theorem correction_eq (s : State) :
    correction s = 6 * (daaLow s.a s.flags).toNat + 96 * (daaHigh s.a s.flags).toNat := by
  rw [correction, daaCorrection]
  cases daaLow s.a s.flags <;> cases daaHigh s.a s.flags <;> rfl

theorem correction_low (s : State) :
    (daaLowDue s → correction s % 16 = 6) ∧ (¬ daaLowDue s → correction s % 16 = 0) := by
  rw [← daaLow_iff, correction_eq]
  cases daaLow s.a s.flags <;> cases daaHigh s.a s.flags <;> decide

theorem correction_high (s : State) :
    (daaHighDue s → correction s / 16 = 6) ∧ (¬ daaHighDue s → correction s / 16 = 0) := by
  rw [← daaHigh_iff, correction_eq]
  cases daaLow s.a s.flags <;> cases daaHigh s.a s.flags <;> decide

theorem decimalAdjust_a (s : State) : s.decimalAdjust.a = byte (s.a.toNat + correction s) :=
  add8_value s.a (daaCorrection s.a s.flags) false

/-- AC is the carry out of bit 3 of the correcting addition. -/
theorem decimalAdjust_ac (s : State) :
    s.decimalAdjust.flags.ac = decide (16 ≤ s.a.toNat % 16 + correction s % 16) :=
  add8_ac s.a (daaCorrection s.a s.flags) false

/-- CY is left set exactly when 0x60 is added: a carry that was set is one of the reasons to add it. -/
theorem decimalAdjust_cy (s : State) : s.decimalAdjust.flags.cy = daaHigh s.a s.flags := by
  have hkept : s.flags.cy = true → daaHigh s.a s.flags = true := fun h => (daaHigh_iff s).mpr (.inr (.inl h))
  rw [State.decimalAdjust, resultFlags_cy, Bool.or_eq_left_iff_imp]
  exact hkept

/-- S, Z and P come from the result. -/
theorem decimalAdjust_flags (s : State) :
    s.decimalAdjust.flags = flagsOf s.decimalAdjust.a s.decimalAdjust.flags.ac s.decimalAdjust.flags.cy :=
  resultFlags_eq_flagsOf s.decimalAdjust.a s.decimalAdjust.flags.ac s.decimalAdjust.flags.cy

/-! ## Decimal adjust after an addition of packed-BCD bytes (R153) -/

theorem toNat_eq_ite {b : Bool} {P : Prop} [Decidable P] (h : b = true ↔ P) : b.toNat = if P then 1 else 0 := by
  rw [← if_congr h rfl rfl, Bool.toNat, Bool.cond_eq_ite]

/-- After the binary sum the low correction is due exactly when the units carry. -/
theorem daaLowDue_added {s : State} {v : Byte} {c : Bool} (hs : ValidBcd s.a) (hv : ValidBcd v) :
    daaLowDue (added s v c) ↔ 9 < s.a.toNat % 16 + v.toNat % 16 + c.toNat := by
  obtain ⟨hsLow, hsHigh⟩ := hs
  obtain ⟨hvLow, hvHigh⟩ := hv
  have hc := Bool.toNat_le c
  simp only [daaLowDue, added, flagsOf, decide_eq_true_eq, toNat_byte]
  omega

/-- After the binary sum the high correction is due exactly when the decimal sum reaches 100. -/
theorem daaHighDue_added {s : State} {v : Byte} {c : Bool} (hs : ValidBcd s.a) (hv : ValidBcd v) :
    daaHighDue (added s v c) ↔ 100 ≤ bcd s.a + bcd v + c.toNat := by
  obtain ⟨hsLow, hsHigh⟩ := hs
  obtain ⟨hvLow, hvHigh⟩ := hv
  have hc := Bool.toNat_le c
  simp only [daaHighDue, added, flagsOf, decide_eq_true_eq, toNat_byte, bcd]
  omega

/-- The arithmetic of the correction: where the units `l` and the tens `h` of a sum carry in decimal, 6 and 0x60 skip the
six codes that are no digits. -/
theorem packed_of_corrected_sum {h l low high r : Nat} (hl : l ≤ 19) (hh : h ≤ 18)
    (hlow : low = if 9 < l then 1 else 0) (hhigh : high = if 100 ≤ 10 * h + l then 1 else 0)
    (hr : r = (16 * h + l + (6 * low + 96 * high)) % 256) :
    r % 16 ≤ 9 ∧ r / 16 ≤ 9 ∧ 10 * (r / 16) + r % 16 + 100 * high = 10 * h + l := by
  split at hlow <;> split at hhigh <;> omega

/-- DAA after the binary sum of two packed-BCD bytes leaves their decimal sum, with CY as the hundreds. -/
theorem decimalAdjust_added {s : State} {v : Byte} {c : Bool} (hs : ValidBcd s.a) (hv : ValidBcd v) :
    ValidBcd (added s v c).decimalAdjust.a ∧
    bcd (added s v c).decimalAdjust.a + 100 * (added s v c).decimalAdjust.flags.cy.toNat =
      bcd s.a + bcd v + c.toNat := by
  have hdigits : bcd s.a + bcd v + c.toNat =
      10 * (s.a.toNat / 16 + v.toNat / 16) + (s.a.toNat % 16 + v.toNat % 16 + c.toNat) := by
    simp only [bcd]
    omega
  have hlow := toNat_eq_ite ((daaLow_iff _).trans (daaLowDue_added (c := c) hs hv))
  have hhigh := toNat_eq_ite ((daaHigh_iff _).trans (daaHighDue_added (c := c) hs hv))
  have hsum : (added s v c).a.toNat = (s.a.toNat + v.toNat + c.toNat) % 256 := toNat_byte _
  obtain ⟨hsLow, hsHigh⟩ := hs
  obtain ⟨hvLow, hvHigh⟩ := hv
  have hc := Bool.toNat_le c
  rw [hdigits] at hhigh ⊢
  rw [decimalAdjust_cy, ValidBcd, bcd, and_assoc]
  refine packed_of_corrected_sum (by omega) (by omega) hlow hhigh ?_
  rw [decimalAdjust_a, toNat_byte, hsum, correction_eq]
  omega

/-! ## A second decimal adjust (R154) -/

theorem no_correction_due_iff (s : State) :
    ¬ daaLowDue s ∧ ¬ daaHighDue s ↔ s.flags.ac = false ∧ s.flags.cy = false ∧ ValidBcd s.a := by
  simp only [daaLowDue, daaHighDue, ValidBcd, not_or, not_lt, Bool.not_eq_true]
  constructor
  · rintro ⟨⟨hlow, hac⟩, hhigh, hcy, -⟩
    exact ⟨hac, hcy, hlow, hhigh⟩
  · rintro ⟨hac, hcy, hlow, hhigh⟩
    exact ⟨⟨hlow, hac⟩, hhigh, hcy, by omega⟩

theorem correction_eq_zero_iff (s : State) : correction s = 0 ↔ ¬ daaLowDue s ∧ ¬ daaHighDue s := by
  rw [← daaLow_iff, ← daaHigh_iff, correction_eq]
  cases daaLow s.a s.flags <;> cases daaHigh s.a s.flags <;> decide

/-- No correction but 0 is a multiple of 256, so DAA keeps A only when it adds nothing. -/
theorem correction_eq_zero_of_decimalAdjust_a {s : State} (h : s.decimalAdjust.a = s.a) : correction s = 0 := by
  have ha := s.a.isLt
  have hcorrection : correction s < 256 := (daaCorrection s.a s.flags).isLt
  rw [decimalAdjust_a, ← BitVec.toNat_inj, toNat_byte] at h
  omega

/-- A DAA that adds nothing keeps A and clears AC and CY. -/
theorem decimalAdjust_of_correction_eq_zero {s : State} (h : correction s = 0) :
    s.decimalAdjust = { s with flags := flagsOf s.a false false } := by
  have ha : s.decimalAdjust.a = s.a := by
    rw [decimalAdjust_a, h]
    exact (BitVec.ofNat_toNat 8 s.a).trans (BitVec.setWidth_eq s.a)
  have hac : s.decimalAdjust.flags.ac = false := by
    rw [decimalAdjust_ac, h, decide_eq_false_iff_not]
    omega
  have hcy : s.decimalAdjust.flags.cy = false := by
    rw [decimalAdjust_cy, Bool.eq_false_iff, ne_eq, daaHigh_iff]
    exact ((correction_eq_zero_iff s).mp h).2
  calc s.decimalAdjust = { s with a := s.decimalAdjust.a, flags := s.decimalAdjust.flags } := rfl
    _ = { s with flags := flagsOf s.a false false } := by rw [decimalAdjust_flags, ha, hac, hcy]

/-- Where S, Z and P already are those of A, DAA is idle exactly when it has nothing to add. -/
theorem decimalAdjust_eq_self_iff {s : State} (hflags : s.flags = flagsOf s.a s.flags.ac s.flags.cy) :
    s.decimalAdjust = s ↔ s.flags.ac = false ∧ s.flags.cy = false ∧ ValidBcd s.a := by
  rw [← no_correction_due_iff, ← correction_eq_zero_iff]
  constructor
  · intro h
    exact correction_eq_zero_of_decimalAdjust_a (congrArg State.a h)
  · intro h
    obtain ⟨hac, hcy, -⟩ := (no_correction_due_iff s).mp ((correction_eq_zero_iff s).mp h)
    rw [hac, hcy] at hflags
    rw [decimalAdjust_of_correction_eq_zero h, ← hflags]

/-! ## The obligations about arithmetic -/

/-- Settles O15: the model's addition is the one in numbers, for every kind of operand. -/
theorem addFormsGiveSumAndFlags : Obligations.AddFormsGiveSumAndFlags := by
  unfold Obligations.AddFormsGiveSumAndFlags
  intro src i
  exact ⟨fun hform => ⟨encodedAs_of_source hform, fun s => exec_of_source hform (addAcc_eq_added s _ _)⟩,
    fun hform => ⟨encodedAs_of_source hform, fun s => exec_of_source hform (addAcc_eq_added s _ _)⟩⟩

/-- Settles O16: the model's subtraction is the one in numbers, for every kind of operand. -/
theorem subtractFormsGiveDifferenceAndFlags : Obligations.SubtractFormsGiveDifferenceAndFlags := by
  unfold Obligations.SubtractFormsGiveDifferenceAndFlags
  intro src i
  exact ⟨fun hform => ⟨encodedAs_of_source hform, fun s => exec_of_source hform (subAcc_eq_subtracted s _ _)⟩,
    fun hform => ⟨encodedAs_of_source hform, fun s => exec_of_source hform (subAcc_eq_subtracted s _ _)⟩⟩

/-- Settles O17: both instructions are one register write with the flags of an addition or subtraction of 1. -/
theorem incrementAndDecrementRegister : Obligations.IncrementAndDecrementRegister := by
  unfold Obligations.IncrementAndDecrementRegister
  constructor
  · intro i r hform
    refine ⟨encodedAs_of_form hform (opcode_inr r) rfl, fun s => ?_⟩
    rw [← add8_one_flags, ← add8_one_value]
    exact writes_of_exec_setReg_flags (exec_of_form hform s)
  · intro i r hform
    refine ⟨encodedAs_of_form hform (opcode_dcr r) rfl, fun s => ?_⟩
    rw [← sub8_one_flags, ← sub8_one_value]
    exact writes_of_exec_setReg_flags (exec_of_form hform s)

/-- Settles O18: both instructions are one byte store at HL with the flags of an addition or subtraction of 1. -/
theorem incrementAndDecrementMemory : Obligations.IncrementAndDecrementMemory := by
  unfold Obligations.IncrementAndDecrementMemory
  constructor
  · refine ⟨encodedAs_of_form (i := .inrM) rfl rfl rfl, fun s => ?_⟩
    rw [← add8_one_flags, ← add8_one_value, ← addressM_eq_addressHL]
    exact stores_of_exec_store_flags (exec_eq .inrM s)
  · refine ⟨encodedAs_of_form (i := .dcrM) rfl rfl rfl, fun s => ?_⟩
    rw [← sub8_one_flags, ← sub8_one_value, ← addressM_eq_addressHL]
    exact stores_of_exec_store_flags (exec_eq .dcrM s)

/-- Settles O19: INX and DCX are one pair write, DAD a write of HL with the carry of the 17-bit sum. -/
theorem pairArithmeticWrapsAndKeepsFlags : Obligations.PairArithmeticWrapsAndKeepsFlags := by
  unfold Obligations.PairArithmeticWrapsAndKeepsFlags
  refine ⟨fun i p hform => ?_, fun i p hform => ?_, fun i p hform => ?_⟩
  · have hvalue (s : State) : (s.pair p + 1#16).toNat = ((s.pair p).toNat + 1) % 65536 := BitVec.toNat_add ..
    have hbytes := encodedAs_of_form hform (opcode_inx p) rfl
    exact ⟨hbytes, fun s => writes_of_exec_setPair (exec_of_form hform s) (hvalue s)⟩
  · have hvalue (s : State) : (s.pair p - 1#16).toNat = ((s.pair p).toNat + 65535) % 65536 := by
      rw [BitVec.toNat_sub, Nat.add_comm]
      rfl
    have hbytes := encodedAs_of_form hform (opcode_dcx p) rfl
    exact ⟨hbytes, fun s => writes_of_exec_setPair (exec_of_form hform s) (hvalue s)⟩
  · refine ⟨encodedAs_of_form hform (opcode_dad p) rfl, fun s => ?_⟩
    rw [← toNat_dadSum, ← dadSum_carry]
    refine ⟨s.dadPair p, exec_of_form hform s, rfl, ?_⟩
    have hhl : (s.dadPair p).pair .hl = (s.dadSum p).setWidth 16 := join_hi8_lo8 _
    rw [hhl, BitVec.toNat_setWidth]

/-- Settles O20: the model's correction has the two nibbles of the rule, and after a binary sum of packed-BCD bytes it
carries exactly where the decimal sum does. -/
theorem decimalAdjustCorrectsTheSum : Obligations.DecimalAdjustCorrectsTheSum := by
  unfold Obligations.DecimalAdjustCorrectsTheSum
  refine ⟨encodedAs_of_form (i := .daa) rfl rfl rfl, fun s => ?_, fun src i s c hadd hs hv => ?_⟩
  · obtain ⟨hlow, hlowNot⟩ := correction_low s
    obtain ⟨hhigh, hhighNot⟩ := correction_high s
    refine ⟨correction s, hlow, hlowNot, hhigh, hhighNot, s.decimalAdjust, exec_eq .daa s, ?_, ?_, ?_⟩
    · rw [← decimalAdjust_a]
      rfl
    · rw [← daaHigh_iff, ← Bool.or_eq_true]
      rfl
    · rw [← decimalAdjust_a, ← decimalAdjust_ac]
      exact decimalAdjust_flags s
  · have hexec : exec i s = .next (added s (src.value s) c) := by
      obtain ⟨hform, rfl⟩ | ⟨hform, rfl⟩ := hadd
      · exact exec_of_source hform (addAcc_eq_added s _ _)
      · exact exec_of_source hform (addAcc_eq_added s _ _)
    refine ⟨(added s (src.value s) c).decimalAdjust, ?_, decimalAdjust_added hs hv⟩
    rw [execAll, hexec]
    rfl

/-- Settles O21: the first DAA leaves S, Z and P as those of A, and there DAA is idle exactly when it has nothing to add. -/
theorem secondDecimalAdjustIsIdleExactlyWhen : Obligations.SecondDecimalAdjustIsIdleExactlyWhen := by
  unfold Obligations.SecondDecimalAdjustIsIdleExactlyWhen
  intro s
  exact ⟨s.decimalAdjust, s.decimalAdjust.decimalAdjust, exec_eq .daa s, exec_eq .daa s.decimalAdjust,
    decimalAdjust_eq_self_iff (decimalAdjust_flags s)⟩

end Sys2Proof.Claim

/-! ## The logical operations and the comparison in numbers (R160, R161) -/

namespace Sys2Proof.Claim

open Sys2Proof.Machine

theorem andAcc_eq_logical (s : State) (v : Byte) : s.andAcc v = logical s (s.a &&& v) := by
  rw [State.andAcc, logicFlags, resultFlags_eq_flagsOf, logical]

theorem xorAcc_eq_logical (s : State) (v : Byte) : s.xorAcc v = logical s (s.a ^^^ v) := by
  rw [State.xorAcc, logicFlags, resultFlags_eq_flagsOf, logical]

theorem orAcc_eq_logical (s : State) (v : Byte) : s.orAcc v = logical s (s.a ||| v) := by
  rw [State.orAcc, logicFlags, resultFlags_eq_flagsOf, logical]

/-- CMP is SUB with A kept, so its flags are SUB's (R161). -/
theorem compareAcc_eq (s : State) (v : Byte) : s.compareAcc v = { s with flags := differenceFlags s.a v false } :=
  congrArg (fun t => { s with flags := t.flags }) (subAcc_eq_subtracted s v false)

/-- The difference of two bytes is 0 mod 256 only when they are equal. -/
theorem differenceFlags_z_iff (a v : Byte) : (differenceFlags a v false).z = true ↔ a = v := by
  have ha := a.isLt
  have hv := v.isLt
  rw [differenceFlags, flagsOf, decide_eq_true_eq, BitVec.toNat_ofInt, Bool.toNat_false, ← BitVec.toNat_inj]
  omega

theorem differenceFlags_cy_iff (a v : Byte) : (differenceFlags a v false).cy = true ↔ a.toNat < v.toNat :=
  decide_eq_true_iff

/-- Neither equal nor below is above. -/
theorem differenceFlags_above_iff (a v : Byte) :
    (differenceFlags a v false).cy = false ∧ (differenceFlags a v false).z = false ↔ v.toNat < a.toNat := by
  rw [← Bool.not_eq_true, ← Bool.not_eq_true, differenceFlags_cy_iff, differenceFlags_z_iff, ← BitVec.toNat_inj]
  omega

/-! ## The bits that go out and come in (R174 to R177) -/

theorem toNat_decide (P : Prop) [Decidable P] : (decide P).toNat = if P then 1 else 0 :=
  toNat_eq_ite decide_eq_true_iff

/-- The bit a left rotate pushes out. -/
theorem getLsbD_seven (a : Byte) : a.getLsbD 7 = decide (128 ≤ a.toNat) := topBit_eq (w := 7) a

/-- The bit a right rotate pushes out. -/
theorem getLsbD_zero (a : Byte) : a.getLsbD 0 = decide (a.toNat % 2 = 1) := Nat.testBit_zero a.toNat

theorem toNat_append {m n : Nat} (x : BitVec m) (y : BitVec n) : (x ++ y).toNat = x.toNat * 2 ^ n + y.toNat := by
  rw [BitVec.toNat_append, ← Nat.shiftLeft_add_eq_or_of_lt y.isLt, Nat.shiftLeft_eq]

/-- A left rotate doubles A, drops bit 7 and adds the bit that comes in. -/
theorem shiftInLow_eq_byte (a : Byte) (b : Bool) :
    a.extractLsb' 0 7 ++ BitVec.ofBool b = byte (a.toNat * 2 % 256 + b.toNat) := by
  have hb := Bool.toNat_le b
  apply BitVec.eq_of_toNat_eq
  rw [toNat_append, BitVec.extractLsb'_toNat, BitVec.toNat_ofBool, Nat.shiftRight_zero, toNat_byte]
  omega

/-- A right rotate halves A and puts the bit that comes in on top. -/
theorem shiftInHigh_eq_byte (a : Byte) (b : Bool) :
    BitVec.ofBool b ++ a.extractLsb' 1 7 = byte (a.toNat / 2 + b.toNat * 128) := by
  have ha := a.isLt
  have hb := Bool.toNat_le b
  apply BitVec.eq_of_toNat_eq
  rw [toNat_append, BitVec.extractLsb'_toNat, BitVec.toNat_ofBool, Nat.shiftRight_eq_div_pow, toNat_byte]
  omega

theorem toNat_getLsbD_seven (a : Byte) : (a.getLsbD 7).toNat = a.toNat / 128 := by
  have ha := a.isLt
  rw [getLsbD_seven, toNat_decide]
  split <;> omega

theorem toNat_getLsbD_zero (a : Byte) : (a.getLsbD 0).toNat = a.toNat % 2 := by
  rw [getLsbD_zero, toNat_decide]
  split <;> omega

/-! ## The rotates in numbers (R174 to R177) -/

theorem rlc_eq (s : State) :
    s.rotateLeft = s.setAccCarry (byte (s.a.toNat * 2 % 256 + s.a.toNat / 128)) (decide (128 ≤ s.a.toNat)) := by
  rw [State.rotateLeft, shiftInLow_eq_byte, toNat_getLsbD_seven, getLsbD_seven]

theorem rrc_eq (s : State) :
    s.rotateRight = s.setAccCarry (byte (s.a.toNat / 2 + s.a.toNat % 2 * 128)) (decide (s.a.toNat % 2 = 1)) := by
  rw [State.rotateRight, shiftInHigh_eq_byte, toNat_getLsbD_zero, getLsbD_zero]

theorem ral_eq (s : State) :
    s.rotateLeftCarry =
      s.setAccCarry (byte (s.a.toNat * 2 % 256 + s.flags.cy.toNat)) (decide (128 ≤ s.a.toNat)) := by
  rw [State.rotateLeftCarry, shiftInLow_eq_byte, getLsbD_seven]

theorem rar_eq (s : State) :
    s.rotateRightCarry =
      s.setAccCarry (byte (s.a.toNat / 2 + s.flags.cy.toNat * 128)) (decide (s.a.toNat % 2 = 1)) := by
  rw [State.rotateRightCarry, shiftInHigh_eq_byte, getLsbD_zero]

/-! ## The rotates as rotations of 8 and of 9 bits (R174 to R177) -/

/-- Rotations to the left add up. -/
theorem rotateLeft_rotateLeft {w : Nat} (x : BitVec w) (m n : Nat) :
    (x.rotateLeft m).rotateLeft n = x.rotateLeft (m + n) := by
  refine BitVec.eq_of_getElem_eq fun i hi => ?_
  have hw : 0 < w := Nat.zero_lt_of_lt hi
  have hm := Nat.mod_lt m hw
  have hn := Nat.mod_lt n hw
  have hsum := Nat.add_mod_eq_ite (m := m) (n := n) (k := w)
  simp only [BitVec.getElem_rotateLeft]
  split_ifs at hsum ⊢ <;> congr 1 <;> omega

/-- A rotation by a multiple of the width comes back. -/
theorem rotateLeft_width_mul {w : Nat} (x : BitVec w) (k : Nat) : x.rotateLeft (w * k) = x := by
  refine BitVec.eq_of_getElem_eq fun i hi => ?_
  simp

theorem iterate_rotateLeft {w : Nat} (x : BitVec w) (k n : Nat) :
    (fun y : BitVec w => y.rotateLeft k)^[n] x = x.rotateLeft (n * k) := by
  induction n with
  | zero =>
    rw [Nat.zero_mul]
    exact (rotateLeft_width_mul x 0).symm
  | succ n ih => rw [Function.iterate_succ_apply', ih, rotateLeft_rotateLeft, Nat.succ_mul]

/-- Any rotation, repeated as often as there are bits, comes back. -/
theorem iterate_rotateLeft_width {w : Nat} (x : BitVec w) (k : Nat) :
    (fun y : BitVec w => y.rotateLeft k)^[w] x = x := by
  rw [iterate_rotateLeft, rotateLeft_width_mul]

/-- A rotation in numbers: the bits that stay inside move up, the others come in below. -/
theorem toNat_rotateLeft {w n : Nat} (x : BitVec w) (hn : n < w) :
    (x.rotateLeft n).toNat = x.toNat * 2 ^ n % 2 ^ w + x.toNat / 2 ^ (w - n) := by
  have hpow : 2 ^ (w - n) * 2 ^ n = 2 ^ w := by rw [← Nat.pow_add, Nat.sub_add_cancel hn.le]
  have hlow : x.toNat / 2 ^ (w - n) < 2 ^ n := by
    rw [Nat.div_lt_iff_lt_mul (Nat.two_pow_pos _), Nat.mul_comm, hpow]
    exact x.isLt
  rw [BitVec.toNat_rotateLeft, Nat.mod_eq_of_lt hn, Nat.shiftRight_eq_div_pow, Nat.shiftLeft_eq, ← hpow,
    Nat.mul_mod_mul_right, ← Nat.shiftLeft_eq, Nat.shiftLeft_add_eq_or_of_lt hlow]

/-- RLC rotates the eight bits of A to the left (R174). -/
theorem rlc_a (s : State) : s.rotateLeft.a = s.a.rotateLeft 1 := by
  apply BitVec.eq_of_toNat_eq
  rw [rlc_eq, State.setAccCarry_a, toNat_rotateLeft s.a (by decide), toNat_byte]
  omega

/-- RRC rotates them to the right by one, which is to the left by seven (R175). -/
theorem rrc_a (s : State) : s.rotateRight.a = s.a.rotateLeft 7 := by
  have ha := s.a.isLt
  apply BitVec.eq_of_toNat_eq
  rw [rrc_eq, State.setAccCarry_a, toNat_rotateLeft s.a (by decide), toNat_byte]
  omega

/-- The nine bits CY : A, which RAL and RAR rotate (R176, R177). -/
def carryAcc (s : State) : BitVec 9 := BitVec.ofNat 9 (s.flags.cy.toNat * 256 + s.a.toNat)

/-- The state with other nine bits for CY : A. -/
def withCarryAcc (s : State) (x : BitVec 9) : State := s.setAccCarry (byte x.toNat) (decide (256 ≤ x.toNat))

/-- The nine bits determine A and CY. -/
theorem withCarryAcc_eq {s : State} {x : BitVec 9} {v : Byte} {cy : Bool} (h : x.toNat = cy.toNat * 256 + v.toNat) :
    withCarryAcc s x = s.setAccCarry v cy := by
  have hv := v.isLt
  have hcy := Bool.toNat_le cy
  have hacc : byte x.toNat = v := by
    apply BitVec.eq_of_toNat_eq
    rw [toNat_byte]
    omega
  have hcarry : decide (256 ≤ x.toNat) = cy := by
    rw [Bool.eq_iff_iff, decide_eq_true_iff, ← Bool.toNat_eq_one]
    omega
  rw [withCarryAcc, hacc, hcarry]

theorem withCarryAcc_carryAcc (s : State) : withCarryAcc s (carryAcc s) = s := by
  have ha := s.a.isLt
  have hcy := Bool.toNat_le s.flags.cy
  have hbits : (carryAcc s).toNat = s.flags.cy.toNat * 256 + s.a.toNat := by
    rw [carryAcc, BitVec.toNat_ofNat]
    omega
  exact withCarryAcc_eq hbits

theorem toNat_withCarryAcc_a (s : State) (x : BitVec 9) : (withCarryAcc s x).a.toNat = x.toNat % 256 :=
  toNat_byte x.toNat

theorem toNat_withCarryAcc_cy (s : State) (x : BitVec 9) : (withCarryAcc s x).flags.cy.toNat = x.toNat / 256 := by
  have hx := x.isLt
  rw [withCarryAcc, State.setAccCarry_flags, toNat_decide]
  split <;> omega

/-- RAL rotates CY : A to the left (R176); doubling the nine bits drops CY. -/
theorem ral_withCarryAcc (s : State) (x : BitVec 9) :
    (withCarryAcc s x).rotateLeftCarry = withCarryAcc s (x.rotateLeft 1) := by
  have hx := x.isLt
  have hdouble : x.toNat * 2 ^ 1 % 2 ^ 9 = x.toNat % 256 * 2 := by omega
  rw [ral_eq, toNat_withCarryAcc_a, toNat_withCarryAcc_cy]
  refine (withCarryAcc_eq ?_).symm
  rw [toNat_rotateLeft x (by decide), hdouble, toNat_byte, toNat_decide]
  split <;> omega

/-- RAR rotates CY : A to the right by one, which is to the left by eight (R177). -/
theorem rar_withCarryAcc (s : State) (x : BitVec 9) :
    (withCarryAcc s x).rotateRightCarry = withCarryAcc s (x.rotateLeft 8) := by
  have hx := x.isLt
  rw [rar_eq, toNat_withCarryAcc_a, toNat_withCarryAcc_cy]
  refine (withCarryAcc_eq ?_).symm
  rw [toNat_rotateLeft x (by decide), toNat_byte, toNat_decide]
  split <;> omega

/-! ## The rotates repeated (R174 to R177) -/

/-- An operation that rotates A, eight times, restores A. -/
theorem iterate_eight_a {f : State → State} {k : Nat} (hf : ∀ s, (f s).a = s.a.rotateLeft k) (s : State) :
    (f^[8] s).a = s.a := by
  have h : Function.Semiconj State.a f fun x => x.rotateLeft k := hf
  rw [(h.iterate_right 8).eq, iterate_rotateLeft_width]

/-- An operation that rotates CY : A, nine times, restores the state. -/
theorem iterate_nine_eq_self {f : State → State} {k : Nat}
    (hf : ∀ s x, f (withCarryAcc s x) = withCarryAcc s (x.rotateLeft k)) (s : State) : f^[9] s = s := by
  have h : Function.Semiconj (withCarryAcc s) (fun x => x.rotateLeft k) f := fun x => (hf s x).symm
  have hnine := (h.iterate_right 9).eq (carryAcc s)
  rw [iterate_rotateLeft_width, withCarryAcc_carryAcc] at hnine
  exact hnine.symm

theorem rar_ral (s : State) : s.rotateLeftCarry.rotateRightCarry = s := by
  rw [← withCarryAcc_carryAcc s, ral_withCarryAcc, rar_withCarryAcc, rotateLeft_rotateLeft]
  exact congrArg (withCarryAcc s) (rotateLeft_width_mul (carryAcc s) 1)

theorem ral_rar (s : State) : s.rotateRightCarry.rotateLeftCarry = s := by
  rw [← withCarryAcc_carryAcc s, rar_withCarryAcc, ral_withCarryAcc, rotateLeft_rotateLeft]
  exact congrArg (withCarryAcc s) (rotateLeft_width_mul (carryAcc s) 1)

/-- One instruction executed again and again is its form's effect iterated. -/
theorem execAll_replicate (i : Instr) (n : Nat) (s : State) :
    execAll (List.replicate n i) s = .next ((fun t => t.effect i.form)^[n] s) := by
  induction n generalizing s with
  | zero => rfl
  | succ n ih =>
    rw [List.replicate_succ, execAll, exec_eq, Function.iterate_succ_apply]
    exact ih (s.effect i.form)

/-! ## The complement and the carry (R178 to R180) -/

theorem complementAcc_eq (s : State) : s.complementAcc = { s with a := byte (255 - s.a.toNat) } := by
  have ha : ~~~s.a = byte (255 - s.a.toNat) := by
    apply BitVec.eq_of_toNat_eq
    rw [toNat_not8, toNat_byte]
    omega
  rw [State.complementAcc, ha]

/-- CMA undoes itself (R178). -/
theorem complementAcc_complementAcc (s : State) : s.complementAcc.complementAcc = s := by
  rw [State.complementAcc, State.complementAcc, BitVec.not_not]

theorem complementCarry_eq (s : State) :
    s.complementCarry = { s with flags := { s.flags with cy := decide (s.flags.cy = false) } } := by
  rw [State.complementCarry, Bool.decide_eq_false]

/-! ## The obligations about logic -/

/-- Settles O22: each operation is the one in numbers, for every kind of operand. -/
theorem logicalFormsGiveResultAndClearCarries : Obligations.LogicalFormsGiveResultAndClearCarries := by
  unfold Obligations.LogicalFormsGiveResultAndClearCarries
  intro src i
  exact ⟨fun hform => ⟨encodedAs_of_source hform, fun s => exec_of_source hform (andAcc_eq_logical s _)⟩,
    fun hform => ⟨encodedAs_of_source hform, fun s => exec_of_source hform (xorAcc_eq_logical s _)⟩,
    fun hform => ⟨encodedAs_of_source hform, fun s => exec_of_source hform (orAcc_eq_logical s _)⟩⟩

/-- Settles O23: the flags are the subtraction's, which tell equal, below and above. -/
theorem compareSetsFlagsOnly : Obligations.CompareSetsFlagsOnly := by
  unfold Obligations.CompareSetsFlagsOnly
  intro src i hform
  refine ⟨encodedAs_of_source hform, fun s => ?_⟩
  exact ⟨_, exec_of_source hform (compareAcc_eq s _), rfl, differenceFlags_z_iff s.a _, differenceFlags_cy_iff s.a _,
    differenceFlags_above_iff s.a _⟩

/-- Settles O24: each rotate is the one in numbers. -/
theorem rotatesMoveOneBit : Obligations.RotatesMoveOneBit := by
  unfold Obligations.RotatesMoveOneBit
  refine ⟨encodedAs_of_form (i := .rlc) rfl rfl rfl, encodedAs_of_form (i := .rrc) rfl rfl rfl,
    encodedAs_of_form (i := .ral) rfl rfl rfl, encodedAs_of_form (i := .rar) rfl rfl rfl, fun s => ?_⟩
  exact ⟨congrArg Host.Outcome.next (rlc_eq s), congrArg Host.Outcome.next (rrc_eq s),
    congrArg Host.Outcome.next (ral_eq s), congrArg Host.Outcome.next (rar_eq s)⟩

/-- Settles O25: RLC and RRC rotate the eight bits of A, RAL and RAR the nine bits CY : A. -/
theorem rotatesCloseUp : Obligations.RotatesCloseUp := by
  unfold Obligations.RotatesCloseUp
  intro s
  refine ⟨⟨_, execAll_replicate .rlc 8 s, iterate_eight_a rlc_a s⟩,
    ⟨_, execAll_replicate .rrc 8 s, iterate_eight_a rrc_a s⟩, ?_, ?_,
    congrArg Host.Outcome.next (rar_ral s),
    congrArg Host.Outcome.next (ral_rar s)⟩
  · rw [execAll_replicate]
    exact congrArg Host.Outcome.next (iterate_nine_eq_self ral_withCarryAcc s)
  · rw [execAll_replicate]
    exact congrArg Host.Outcome.next (iterate_nine_eq_self rar_withCarryAcc s)

/-- Settles O26: the complement is 255 − A, and complementing twice is doing nothing. -/
theorem complementAndCarry : Obligations.ComplementAndCarry := by
  unfold Obligations.ComplementAndCarry
  refine ⟨encodedAs_of_form (i := .cma) rfl rfl rfl, encodedAs_of_form (i := .cmc) rfl rfl rfl,
    encodedAs_of_form (i := .stc) rfl rfl rfl, fun s => ?_⟩
  exact ⟨congrArg Host.Outcome.next (complementAcc_eq s), congrArg Host.Outcome.next (complementCarry_eq s),
    exec_eq .stc s, congrArg Host.Outcome.next (complementAcc_complementAcc s)⟩

end Sys2Proof.Claim

/-! ## The stack instructions in numbers (R190 to R195) -/

namespace Sys2Proof.Claim

open Sys2Proof.Machine

theorem toNat_stackPairCode (p : StackPair) : p.code.toNat = stackPairNumber p := by cases p <;> rfl

theorem opcode_push (p : StackPair) : (Form.push p).opcode = byte (0xC5 + 16 * stackPairNumber p) := by
  rw [Form.opcode, opcode224_eq_byte, toNat_stackPairCode, Nat.add_right_comm]
  rfl

theorem opcode_pop (p : StackPair) : (Form.pop p).opcode = byte (0xC1 + 16 * stackPairNumber p) := by
  rw [Form.opcode, opcode224_eq_byte, toNat_stackPairCode, Nat.add_right_comm]
  rfl

/-- The word PUSH stores is made of the high and the low byte the rules name (R192, R193). -/
theorem stackView_eq_join (s : State) (p : StackPair) : s.stackView p = join (pushHigh s p) (pushLow s p) := by
  cases p
  case psw => rw [State.stackView, toByte_eq_flagsByte]; rfl
  all_goals rfl

/-- A push of a word pushes its two bytes and changes nothing else (R190). -/
theorem pushes_push16 (s : State) (hi lo : Byte) : Pushes s (s.push16 (join hi lo)) s hi lo := by
  refine ⟨rfl, fun y => ?_⟩
  rw [State.push16_read, hi8_join, lo8_join]

theorem pushes_stackView (s : State) (p : StackPair) :
    Pushes s (s.push16 (s.stackView p)) s (pushHigh s p) (pushLow s p) := by
  rw [stackView_eq_join]
  exact pushes_push16 s _ _

/-- POP splits the word on top of the stack into its two bytes (R191, R194, R195). -/
theorem popInto_eq_popped (s : State) (p : StackPair) :
    s.popInto p = popped s (s.mem.read s.sp) (s.mem.read (s.sp + 1#16)) p := by
  rw [State.popInto, State.topWord, Memory.read16]
  cases p <;> simp only [State.setStackView, State.setPair, hi8_join, lo8_join] <;> rfl

/-! ## XTHL (R196) -/

/-- XTHL loads HL as LHLD would and stores it as SHLD would, both at SP and both from the state before it. -/
theorem exchangeTop_eq (s : State) :
    s.exchangeTop =
      { s with l := s.mem.read s.sp, h := s.mem.read (s.sp + 1#16), mem := (s.storeHL s.sp).mem } :=
  congrArg (fun t => { t with mem := (s.storeHL s.sp).mem }) (loadHL_eq s s.sp)

/-- A word put back where it was read from undoes any store made there in between. -/
theorem read_write16_write16_read16 (m : Memory) (x w y : Word) :
    ((m.write16 x w).write16 x (m.read16 x)).read y = m.read y := by
  simp only [Memory.read_write16, Memory.read16, hi8_join, lo8_join]
  split
  · next hy => rw [hy]
  · split
    · next hy => rw [hy]
    · rfl

/-- The second exchange finds the old HL on the stack and the old top of the stack in HL. -/
theorem exchangeTop_exchangeTop (s : State) :
    s.exchangeTop.exchangeTop =
      { s with mem := (s.mem.write16 s.sp (s.pair .hl)).write16 s.sp (s.mem.read16 s.sp) } := by
  have htop : s.exchangeTop.topWord = join s.h s.l := Memory.read16_write16 _ _ _
  have hpair : s.exchangeTop.pair .hl = s.mem.read16 s.sp := join_hi8_lo8 _
  rw [State.exchangeTop, htop, hpair, State.setPair, hi8_join, lo8_join]
  rfl

/-! ## Two stack instructions in a row (R198) -/

/-- Two instructions in a row do the effect of one form after that of the other. -/
theorem execAll_pair_of_form {i j : Instr} {f g : Form} (hi : i.form = f) (hj : j.form = g) (s : State) :
    execAll [i, j] s = .next ((s.effect f).effect g) := by
  rw [execAll, exec_of_form hi]
  exact congrArg (andThen · Host.Outcome.next) (exec_of_form hj (s.effect f))

/-- Writing to a pair, or to PSW, the word PUSH reads there changes nothing: the reserved bits are no state (R27). -/
theorem setStackView_eq_self {s : State} {p : StackPair} {w : Word} (h : s.stackView p = w) : s.setStackView p w = s := by
  subst h
  cases p <;> simp only [State.setStackView, State.stackView, State.setPair, State.pair, hi8_join, lo8_join,
    Flags.ofByte_toByte]

/-- Dropping a word just pushed gives SP back and leaves the bytes in memory. -/
theorem dropWord_push16 (s : State) (w : Word) : (s.push16 w).dropWord = { s with mem := (s.push16 w).mem } := by
  rw [State.dropWord, State.push16_sp, BitVec.sub_add_cancel]
  rfl

/-- POP undoes PUSH of the same pair, all but the bytes left in memory. -/
theorem popInto_push16_stackView (s : State) (p : StackPair) :
    (s.push16 (s.stackView p)).popInto p = { s with mem := (s.push16 (s.stackView p)).mem } := by
  have hview : (s.push16 (s.stackView p)).dropWord.stackView p = s.stackView p := by cases p <;> rfl
  rw [State.popInto, State.topWord_push16, setStackView_eq_self hview, dropWord_push16]

/-- A flags byte read and made again keeps the bits of the five flags and gets the reserved bits 0, 0, 1 (R27). -/
theorem toByte_ofByte (v : Byte) : (Flags.ofByte v).toByte = (v &&& 0xD7#8) ||| 0x02#8 := by
  revert v
  decide

/-- What PUSH PSW stores after POP PSW: the popped word with the reserved bits of its low byte forced. -/
theorem stackView_popInto_psw (s : State) :
    (s.popInto .psw).stackView .psw =
      join (s.mem.read (s.sp + 1#16)) ((s.mem.read s.sp &&& 0xD7#8) ||| 0x02#8) := by
  rw [popInto_eq_popped, ← toByte_ofByte]
  rfl

/-- POP PSW then PUSH PSW puts A's byte back as it was, so only the flags byte can differ. -/
theorem read_push16_popInto_psw (s : State) (x : Word) :
    ((s.popInto .psw).push16 ((s.popInto .psw).stackView .psw)).mem.read x =
      if x = s.sp then (s.mem.read s.sp &&& 0xD7#8) ||| 0x02#8 else s.mem.read x := by
  have hsp : (s.popInto .psw).sp = s.sp + 2#16 := rfl
  have hmem : (s.popInto .psw).mem = s.mem := rfl
  have hhigh : s.sp + 2#16 - 1#16 = s.sp + 1#16 := by bv_omega
  have hne : s.sp + 1#16 ≠ s.sp := by bv_omega
  rw [State.push16_read, stackView_popInto_psw, hi8_join, lo8_join, hsp, hmem, hhigh, BitVec.add_sub_cancel]
  split
  · next hx => rw [hx, if_neg hne]
  · rfl

/-! ## The obligations about the stack -/

/-- Settles O27: PUSH is one push of the word whose bytes the rules name. -/
theorem pushStoresHighThenLow : Obligations.PushStoresHighThenLow := by
  unfold Obligations.PushStoresHighThenLow
  intro i p hform
  exact ⟨encodedAs_of_form hform (opcode_push p) rfl, fun s => ⟨_, exec_of_form hform s, pushes_stackView s p⟩⟩

/-- Settles O28: POP writes its destination from the two bytes of the word on top of the stack. -/
theorem popLoadsLowThenHigh : Obligations.PopLoadsLowThenHigh := by
  unfold Obligations.PopLoadsLowThenHigh
  intro i p hform
  refine ⟨encodedAs_of_form hform (opcode_pop p) rfl, fun s => ?_⟩
  rw [← popInto_eq_popped]
  exact exec_of_form hform s

/-- Settles O29: XTHL is a load and a store of HL at SP, whose repetition puts both words back; SPHL is one write of SP. -/
theorem exchangeTopAndLoadSp : Obligations.ExchangeTopAndLoadSp := by
  unfold Obligations.ExchangeTopAndLoadSp
  refine ⟨encodedAs_of_form (i := .xthl) rfl rfl rfl, encodedAs_of_form (i := .sphl) rfl rfl rfl, fun s => ?_,
    fun s => ?_, fun s => ?_⟩
  · exact ⟨s.exchangeTop, exec_eq .xthl s, exchangeTop_eq s, storesWord_storeHL s s.sp⟩
  · have hexec := execAll_pair_of_form (i := .xthl) (j := .xthl) rfl rfl s
    exact ⟨_, hexec.trans (congrArg Host.Outcome.next (exchangeTop_exchangeTop s)), rfl,
      read_write16_write16_read16 s.mem s.sp (s.pair .hl)⟩
  · rw [← join_eq_word]
    exact exec_eq .sphl s

/-- Settles O30: POP reads the word PUSH has just stored and leaves it in memory; the other way round, PUSH PSW stores the
popped word with the reserved bits forced. -/
theorem pushThenPopRestores : Obligations.PushThenPopRestores := by
  unfold Obligations.PushThenPopRestores
  constructor
  · intro i j p s hpush hpop
    have hexec := execAll_pair_of_form hpush hpop s
    obtain ⟨-, hread⟩ := pushes_stackView s p
    exact ⟨_, hexec.trans (congrArg Host.Outcome.next (popInto_push16_stackView s p)), rfl, hread⟩
  · intro s
    have hread := read_push16_popInto_psw s
    refine ⟨_, execAll_pair_of_form (i := .popPsw) (j := .pushPsw) rfl rfl s, BitVec.add_sub_cancel s.sp 2#16, ?_,
      fun x hx => ?_⟩
    · exact (hread s.sp).trans (if_pos rfl)
    · exact (hread x).trans (if_neg hx)

end Sys2Proof.Claim

/-! ## Conditions and the opcode bytes of control flow (R86, R92) -/

namespace Sys2Proof.Claim

open Sys2Proof.Machine

theorem toNat_condCode (cond : Cond) : cond.code.toNat = condNumber cond := by cases cond <;> rfl

theorem opcode_jcc (cond : Cond) (w : Word) : (Form.jcc cond w).opcode = byte (0xC2 + 8 * condNumber cond) := by
  rw [Form.opcode, opcode233_eq_byte, toNat_condCode, Nat.add_right_comm]
  rfl

theorem opcode_ccc (cond : Cond) (w : Word) : (Form.ccc cond w).opcode = byte (0xC4 + 8 * condNumber cond) := by
  rw [Form.opcode, opcode233_eq_byte, toNat_condCode, Nat.add_right_comm]
  rfl

theorem opcode_rcc (cond : Cond) : (Form.rcc cond).opcode = byte (0xC0 + 8 * condNumber cond) := by
  rw [Form.opcode, opcode233_eq_byte, toNat_condCode, Nat.add_right_comm]
  rfl

theorem opcode_rst (n : BitVec 3) : (Form.rst n).opcode = byte (0xC7 + 8 * n.toNat) := by
  rw [Form.opcode, opcode233_eq_byte, Nat.add_right_comm]
  rfl

/-- The model's condition is the table of R200. -/
theorem holds_iff_condTrue (f : Flags) (cond : Cond) : f.holds cond = true ↔ condTrue f cond := by
  cases cond
  case nz | nc | po | p => exact Iff.of_eq (Bool.not_eq_true' _)
  case z | c | pe | m => exact Iff.rfl

/-! ## The transfers in numbers -/

/-- A conditional transfer has the effect of the unconditional one when its condition holds, and none when it does not
(R202, R213, R224). -/
theorem exec_of_conditional {i : Instr} {f taken : Form} {cond : Cond} (hform : i.form = f) (s : State)
    (heffect : s.effect f = if s.flags.holds cond then s.effect taken else s) :
    (condTrue s.flags cond → exec i s = .next (s.effect taken)) ∧ (¬ condTrue s.flags cond → exec i s = .next s) := by
  rw [exec_of_form hform, heffect]
  constructor
  · intro htrue
    rw [if_pos ((holds_iff_condTrue _ _).mpr htrue)]
  · intro hfalse
    rw [if_neg (mt (holds_iff_condTrue _ _).mp hfalse)]

/-- A call pushes the two bytes of PC and goes to its target (R212). -/
theorem pushes_call (s : State) (w : Word) : Pushes s (s.call w) { s with pc := w } (pcHigh s) (pcLow s) := by
  refine ⟨rfl, fun y => ?_⟩
  rw [pcHigh, pcLow, ← hi8_eq_byte, ← lo8_eq_byte]
  exact State.push16_read s s.pc y

theorem vector_eq_ofNat (n : BitVec 3) : vector n = BitVec.ofNat 16 (8 * n.toNat) := by
  revert n
  decide

/-- RST is a call to its vector (R233). -/
theorem enterVector_eq_call (s : State) (n : BitVec 3) : s.enterVector n = s.call (BitVec.ofNat 16 (8 * n.toNat)) := by
  rw [← vector_eq_ofNat]
  rfl

theorem ret_eq_returned (s : State) : s.ret = returned s := by
  rw [State.ret, State.topWord, Memory.read16, join_eq_word]
  rfl

/-- A return takes back all that a call did but the two bytes in memory (R222). -/
theorem ret_call (s : State) (w : Word) : (s.call w).ret = { s with mem := (s.call w).mem } := by
  have htop : (s.call w).topWord = s.pc := State.topWord_push16 s s.pc
  have hsp : (s.call w).dropWord.sp = s.sp := BitVec.sub_add_cancel s.sp 2#16
  calc (s.call w).ret
      = { s with pc := (s.call w).topWord, sp := (s.call w).dropWord.sp, mem := (s.call w).mem } := rfl
    _ = { s with mem := (s.call w).mem } := by rw [htop, hsp]

/-! ## The step at an encoding in memory -/

theorem bytesAt_singleton {s : State} {x : Word} {b : Byte} (h : s.mem.read x = b) : BytesAt s x [b] := by
  intro k c hk
  match k with
  | 0 => simpa [h] using hk
  | k + 1 => simp at hk

/-- A running core runs the instruction encoded at PC, with PC past every byte of the encoding (R8, R211). -/
theorem step_of_encodedAs {s : State} {i : Instr} {bytes : List Byte} (hrun : s.run = .running)
    (hencoded : EncodedAs i bytes) (hbytes : BytesAt s s.pc bytes) :
    step s = exec i { s with pc := s.pc + BitVec.ofNat 16 bytes.length } := by
  obtain ⟨rfl, -⟩ := hencoded
  rw [length_encode]
  exact step_of_holds hrun hbytes

/-! ## The obligations about control flow -/

/-- Settles O31: a jump writes PC; a conditional one is the jump or nothing. -/
theorem jumpsGoWhereTheConditionSays : Obligations.JumpsGoWhereTheConditionSays := by
  unfold Obligations.JumpsGoWhereTheConditionSays
  refine ⟨fun i w hform => ?_, fun i cond w hform => ?_⟩
  · exact ⟨encodedAs_of_form hform rfl (lo8_hi8_eq_lowHigh w), exec_of_form hform⟩
  · have hencoded := encodedAs_of_form hform (opcode_jcc cond w) (lo8_hi8_eq_lowHigh w)
    exact ⟨hencoded, fun s => exec_of_conditional (taken := .jmp w) hform s rfl⟩

/-- Settles O32: a call pushes the PC its instruction's effect starts from; a conditional one is the call or nothing. -/
theorem callsPushThenTransfer : Obligations.CallsPushThenTransfer := by
  unfold Obligations.CallsPushThenTransfer
  refine ⟨fun i w hform => ?_, fun i cond w hform => ?_⟩
  · have hencoded := encodedAs_of_form hform rfl (lo8_hi8_eq_lowHigh w)
    exact ⟨hencoded, fun s => ⟨s.call w, exec_of_form hform s, pushes_call s w⟩⟩
  · refine ⟨encodedAs_of_form hform (opcode_ccc cond w) (lo8_hi8_eq_lowHigh w), fun s => ?_⟩
    obtain ⟨htaken, hnot⟩ := exec_of_conditional (cond := cond) (taken := .call w) hform s rfl
    exact ⟨fun htrue => ⟨s.call w, htaken htrue, pushes_call s w⟩, hnot⟩

/-- Settles O33: a return takes PC from the top of the stack; a conditional one is the return or nothing. -/
theorem returnsPopThePc : Obligations.ReturnsPopThePc := by
  unfold Obligations.ReturnsPopThePc
  refine ⟨⟨encodedAs_of_form (i := .ret) rfl rfl rfl, fun s => ?_⟩, fun i cond hform => ?_⟩
  · rw [← ret_eq_returned]
    exact exec_eq .ret s
  · refine ⟨encodedAs_of_form hform (opcode_rcc cond) rfl, fun s => ?_⟩
    rw [← ret_eq_returned]
    exact exec_of_conditional (taken := .ret) hform s rfl

/-- Settles O34: RST is a call to 8·n and PCHL a jump to HL. -/
theorem restartAndPchl : Obligations.RestartAndPchl := by
  unfold Obligations.RestartAndPchl
  refine ⟨fun i n hform => ?_, encodedAs_of_form (i := .pchl) rfl rfl rfl, fun s => ?_⟩
  · refine ⟨encodedAs_of_form hform (opcode_rst n) rfl, fun s => ⟨s.enterVector n, exec_of_form hform s, ?_⟩⟩
    rw [enterVector_eq_call]
    exact pushes_call s _
  · rw [← join_eq_word]
    exact exec_eq .pchl s

/-- Settles O35: the step applies the instruction with PC past all its bytes, so a transfer not taken leaves PC there and a
call pushes that PC. -/
theorem operandBytesAreAlwaysConsumed : Obligations.OperandBytesAreAlwaysConsumed := by
  unfold Obligations.OperandBytesAreAlwaysConsumed
  obtain ⟨hjmp, hjcc⟩ := jumpsGoWhereTheConditionSays
  obtain ⟨hcall, hccc⟩ := callsPushThenTransfer
  obtain ⟨-, hrcc⟩ := returnsPopThePc
  refine ⟨fun s cond w hrun hbytes => ?_, fun s cond w hrun hbytes => ?_, fun s cond hrun hbyte => ?_,
    fun s w hrun hbytes => ?_, fun s w hrun hbytes => ?_⟩
  · obtain ⟨i, hform⟩ := form_onto (.jcc cond w)
    obtain ⟨hencoded, hexec⟩ := hjcc i cond w hform
    rw [step_of_encodedAs hrun hencoded hbytes]
    exact hexec { s with pc := s.pc + 3#16 }
  · obtain ⟨i, hform⟩ := form_onto (.ccc cond w)
    obtain ⟨hencoded, hexec⟩ := hccc i cond w hform
    rw [step_of_encodedAs hrun hencoded hbytes]
    exact hexec { s with pc := s.pc + 3#16 }
  · obtain ⟨i, hform⟩ := form_onto (.rcc cond)
    obtain ⟨hencoded, hexec⟩ := hrcc i cond hform
    rw [step_of_encodedAs hrun hencoded (bytesAt_singleton hbyte)]
    exact hexec { s with pc := s.pc + 1#16 }
  · obtain ⟨hencoded, hexec⟩ := hjmp (.jmp w) w rfl
    rw [step_of_encodedAs hrun hencoded hbytes]
    exact hexec { s with pc := s.pc + 3#16 }
  · obtain ⟨hencoded, hexec⟩ := hcall (.call w) w rfl
    rw [step_of_encodedAs hrun hencoded hbytes]
    exact hexec { s with pc := s.pc + 3#16 }

/-- Settles O36: the push spares the RET, so the second step runs it and takes back the PC the first one pushed. -/
theorem callThenReturnRestores : Obligations.CallThenReturnRestores := by
  unfold Obligations.CallThenReturnRestores
  intro s w hrun hbytes hret hhigh hlow
  let q : State := { s with pc := s.pc + 3#16 }
  have hcall : EncodedAs (.call w) (0xCD#8 :: lowHigh w) := encodedAs_of_form rfl rfl (lo8_hi8_eq_lowHigh w)
  have hfirst : step s = .next (q.call w) := step_of_encodedAs hrun hcall hbytes
  obtain ⟨-, hread⟩ := pushes_call q w
  have hspared : (q.call w).mem.read w = 0xC9#8 := by rw [hread, if_neg hhigh, if_neg hlow, hret]
  have hbyte : BytesAt (q.call w) (q.call w).pc [0xC9#8] := bytesAt_singleton hspared
  have hsecond : step (q.call w) = .next (q.call w).ret :=
    step_of_encodedAs (i := .ret) hrun (encodedAs_of_form rfl rfl rfl) hbyte
  rw [ret_call] at hsecond
  exact ⟨q.call w, _, hfirst, rfl, hsecond, rfl, hread⟩

end Sys2Proof.Claim

/-! ## The answer of an IN and the effect of an OUT in numbers (R243 to R250) -/

namespace Sys2Proof.Claim

open Sys2Proof.Machine

theorem toNat_shiftResult (s : State) :
    s.shiftResult.toNat = s.shiftReg.toNat / 2 ^ (8 - s.shiftOffset.toNat) % 256 := by
  rw [State.shiftResult, BitVec.toNat_setWidth, BitVec.toNat_ushiftRight, Nat.shiftRight_eq_div_pow]

/-- The model's answer of a port is the one in numbers (R243 to R246, R249). -/
theorem portRead_eq_portAnswer (s : State) (port : Byte) : s.portRead port = portAnswer s port := by
  have hshift : s.shiftResult = byte (s.shiftReg.toNat / 2 ^ (8 - s.shiftOffset.toNat) % 256) := by
    rw [← toNat_shiftResult, byte, BitVec.ofNat_toNat, BitVec.setWidth_eq]
  simp only [State.portRead, portAnswer, hshift, ← BitVec.toNat_inj]
  rfl

/-- The low three bits of a byte are its remainder by 8 (R248). -/
theorem setWidth_three_eq_ofNat (v : Byte) : v.setWidth 3 = BitVec.ofNat 3 (v.toNat % 8) := by
  apply BitVec.eq_of_toNat_eq
  rw [BitVec.toNat_setWidth, BitVec.toNat_ofNat, Nat.mod_mod]

/-- A byte shifted in at the top: the old high byte moves down and the old low byte is lost (R247). -/
theorem join_hi8_eq_ofNat (v : Byte) (w : Word) :
    join v (hi8 w) = BitVec.ofNat 16 (v.toNat * 256 + w.toNat / 256) := by
  rw [join_eq_word, word, toNat_hi8]

/-- The model's effect of OUT is the one in numbers (R243, R247, R248, R250). -/
theorem portWrite_eq_afterOut (s : State) (port : Byte) : s.portWrite port s.a = afterOut s port := by
  simp only [State.portWrite, afterOut, setWidth_three_eq_ofNat, join_hi8_eq_ofNat, ← BitVec.toNat_inj]
  rfl

/-! ## The shift register fed and read (R246, R253) -/

/-- Of the two digits `hi` and `lo` to the base m · n, the digit that starts at m holds the low part of `hi` above the high
part of `lo`. -/
theorem digits_window {m n lo : Nat} (hi : Nat) (hlo : lo < m * n) :
    (hi * (m * n) + lo) / m % (m * n) = hi % m * n + lo / m := by
  have hm : 0 < m := Nat.pos_of_mul_pos_right (Nat.zero_lt_of_lt hlo)
  have hlow : lo / m < n := Nat.div_lt_of_lt_mul hlo
  have hhigh : (hi % m + 1) * n ≤ m * n := Nat.mul_le_mul_right n (Nat.mod_lt hi hm)
  have hfits : hi % m * n + lo / m < m * n := by linarith
  have hsplit : (hi * (m * n) + lo) / m = hi % m * n + lo / m + hi / m * (m * n) := by
    calc (hi * (m * n) + lo) / m = (lo + m * (hi * n)) / m := by ring_nf
      _ = lo / m + (m * (hi / m) + hi % m) * n := by rw [Nat.add_mul_div_left _ _ hm, Nat.div_add_mod]
      _ = hi % m * n + lo / m + hi / m * (m * n) := by ring
  rw [hsplit, Nat.add_mul_mod_self_right, Nat.mod_eq_of_lt hfits]

/-- R246's other wording: offset k selects the low 8 − k bits of the high byte and the top k bits of the low one. -/
theorem shiftResult_eq_window (s : State) {hi lo : Byte} (h : s.shiftReg.toNat = hi.toNat * 256 + lo.toNat) :
    s.shiftResult.toNat = hi.toNat % 2 ^ (8 - s.shiftOffset.toNat) * 2 ^ s.shiftOffset.toNat +
      lo.toNat / 2 ^ (8 - s.shiftOffset.toNat) := by
  have hoffset := s.shiftOffset.isLt
  have hbyte : 2 ^ (8 - s.shiftOffset.toNat) * 2 ^ s.shiftOffset.toNat = 256 := by
    rw [← Nat.pow_add, Nat.sub_add_cancel (by omega)]
  rw [toNat_shiftResult, h, ← hbyte]
  exact digits_window hi.toNat (hbyte ▸ lo.isLt)

/-- Instructions executed one after another are their forms' effects one after another. -/
theorem execAll_eq (is : List Instr) (s : State) :
    execAll is s = .next (is.foldl (fun t i => t.effect i.form) s) := by
  induction is generalizing s with
  | nil => rfl
  | cons i is ih =>
    rw [execAll, exec_eq]
    exact ih (s.effect i.form)

/-- The state after the shifter has been given an offset and two data bytes by way of A (R252). -/
def fed (s : State) (k v w : Byte) : State :=
  { s with a := w, shiftReg := join w v, shiftOffset := k.setWidth 3 }

/-- The complete use of the shifter (R253): the second data byte pushes out the last byte the shifter held before. -/
theorem execAll_feed_and_read (s : State) (k v w : Byte) :
    execAll [.mviA k, .outPort 2#8, .mviA v, .outPort 4#8, .mviA w, .outPort 4#8, .inPort 3#8] s =
      .next ((fed s k v w).inputAcc 3#8) := by
  have hoffset : ∀ t x, State.portWrite t 2#8 x = { t with shiftOffset := x.setWidth 3 } := State.portWrite_offset
  have hdata : ∀ t x, State.portWrite t 4#8 x = { t with shiftReg := join x (hi8 t.shiftReg) } := State.portWrite_data
  simp only [execAll_eq, List.foldl_cons, List.foldl_nil, Instr.form, State.effect, State.setReg, hoffset, hdata,
    hi8_join, fed]

/-! ## The obligations about the ports -/

/-- Settles O38: IN is one write of A with the port's answer. -/
theorem inGivesThePortsAnswer : Obligations.InGivesThePortsAnswer := by
  unfold Obligations.InGivesThePortsAnswer
  intro i port hform
  refine ⟨encodedAs_of_form hform rfl rfl, fun s => ?_⟩
  rw [← portRead_eq_portAnswer]
  exact exec_of_form hform s

/-- Settles O39: OUT is one write of A to the port. -/
theorem outChangesTheShifterOnly : Obligations.OutChangesTheShifterOnly := by
  unfold Obligations.OutChangesTheShifterOnly
  intro i port hform
  refine ⟨encodedAs_of_form hform rfl rfl, fun s => ?_⟩
  rw [← portWrite_eq_afterOut]
  exact exec_of_form hform s

/-- Settles O40: the shift result is a digit of the register's number, and the register a complete use leaves is made of the
two data bytes alone. -/
theorem shifterGivesTheWindowItWasFed : Obligations.ShifterGivesTheWindowItWasFed := by
  unfold Obligations.ShifterGivesTheWindowItWasFed
  constructor
  · intro s hi lo h
    exact ⟨s.inputAcc 3#8, exec_eq (.inPort 3#8) s, shiftResult_eq_window s h⟩
  · intro s k v w
    have hoffset : (fed s k v w).shiftOffset.toNat = k.toNat % 8 := BitVec.toNat_setWidth 3 k
    have hreg : (fed s k v w).shiftReg.toNat = w.toNat * 256 + v.toNat := toNat_join w v
    have hresult := toNat_shiftResult (fed s k v w)
    rw [hoffset, hreg] at hresult
    exact ⟨_, execAll_feed_and_read s k v w, hoffset, hreg, hresult, rfl⟩

end Sys2Proof.Claim

/-! ## The latches and the step (R251) -/

namespace Sys2Proof.Machine

@[simp] theorem State.setPort_mem (s : State) (k : Latch) (v : Byte) : (s.setPort k v).mem = s.mem := by cases k <;> rfl
@[simp] theorem State.setPort_pc (s : State) (k : Latch) (v : Byte) : (s.setPort k v).pc = s.pc := by cases k <;> rfl
@[simp] theorem State.setPort_run (s : State) (k : Latch) (v : Byte) : (s.setPort k v).run = s.run := by cases k <;> rfl

/-- No form but IN reads a latch and none writes one (R31): its effect and a latch write may change places. -/
theorem State.effect_setPort (s : State) (k : Latch) (v : Byte) {f : Form} (h : ∀ port, f ≠ .inp port) :
    (s.setPort k v).effect f = (s.effect f).setPort k v := by
  cases f
  case inp port => exact absurd rfl (h port)
  case mov dst src => cases dst <;> cases src <;> cases k <;> rfl
  case alu op src => cases op <;> cases src <;> cases k <;> rfl
  case aluM op | aluI op _ => cases op <;> cases k <;> rfl
  case movToM r | movFromM r | mvi r _ | inr r | dcr r => cases r <;> cases k <;> rfl
  case lxi p _ | inx p | dcx p | dad p | ldax p | stax p | push p | pop p => cases p <;> cases k <;> rfl
  case jcc | ccc | rcc | out =>
    simp only [State.effect, State.jumpIf, State.callIf, State.retIf, State.portWrite, apply_ite (State.setPort · k v)]
    cases k <;> rfl
  all_goals cases k <;> rfl

/-- The byte at PC of an instruction that is not IN is not 0xDB. -/
theorem State.Holds.form_ne_inp {s : State} {i : Instr} (hholds : s.Holds i) (hop : s.mem.read s.pc ≠ 0xDB#8)
    (port : Byte) : i.form ≠ .inp port := by
  intro hform
  rw [hholds.opcode, hform] at hop
  exact hop rfl

/-- A latch write before a step that is not an IN is a latch write after it (R251, R312). -/
theorem step_setPort {s t : State} (k : Latch) (v : Byte) (hop : s.mem.read s.pc ≠ 0xDB#8) (hstep : step s = .next t) :
    step (s.setPort k v) = .next (t.setPort k v) := by
  by_cases hrun : s.run = .running
  · obtain ⟨i, hholds, hi⟩ := step_running hrun
    obtain rfl : (s.past i).effect i.form = t := Host.Outcome.next.inj (hi.symm.trans hstep)
    have hholds' : (s.setPort k v).Holds i := by simpa [State.Holds] using hholds
    have hrun' : (s.setPort k v).run = .running := (s.setPort_run k v).trans hrun
    have hpast : (s.setPort k v).past i = (s.past i).setPort k v := by cases k <;> rfl
    rw [step_of_holds hrun' hholds', hpast, exec_eq, State.effect_setPort _ _ _ (hholds.form_ne_inp hop)]
  · obtain rfl : s = t := Host.Outcome.next.inj ((step_not_running hrun).symm.trans hstep)
    exact step_not_running (by rwa [State.setPort_run])

/-- Settles O54: other values of the two latches are two latch writes, and each passes through the step. -/
theorem latchesAreWrittenWholeAndSeenThroughIn : Obligations.LatchesAreWrittenWholeAndSeenThroughIn := by
  unfold Obligations.LatchesAreWrittenWholeAndSeenThroughIn
  refine ⟨fun s v => ⟨rfl, rfl⟩, fun s p q hop => ?_⟩
  obtain ⟨t, hstep, -⟩ := everyStepCompletes s
  have hone : step (s.setPort .one p) = .next (t.setPort .one p) := step_setPort .one p hop hstep
  have hop' : (s.setPort .one p).mem.read (s.setPort .one p).pc ≠ 0xDB#8 := by rwa [State.setPort_mem, State.setPort_pc]
  exact ⟨t, hstep, step_setPort .two q hop' hone⟩

end Sys2Proof.Machine

/-! ## One-byte instructions at PC, and the two answers to an interrupt request -/

namespace Sys2Proof.Machine

/-- A running core with interrupts enabled accepts a request: the vector's transfer, and INTE cleared (R277). -/
theorem State.interruptRequest_accepted {s : State} (n : BitVec 3) (hrun : s.run = .running) (hinte : s.inte = true) :
    s.interruptRequest n = { s.enterVector n with inte := false } :=
  if_pos ⟨hrun, hinte⟩

/-- A request outside the running state or with interrupts disabled has no effect (R277). -/
theorem State.interruptRequest_refused {s : State} (n : BitVec 3) (h : s.run ≠ .running ∨ s.inte = false) :
    s.interruptRequest n = s :=
  if_neg fun ⟨hrun, hinte⟩ => h.elim (· hrun) (ne_false_of_eq_true hinte)

end Sys2Proof.Machine

namespace Sys2Proof.Claim

open Sys2Proof.Machine

/-- A running core runs the one-byte instruction at PC with PC one past it. -/
theorem step_of_encodedAs_singleton {s : State} {i : Instr} {b : Byte} (hrun : s.run = .running)
    (hencoded : EncodedAs i [b]) (hbyte : s.mem.read s.pc = b) : step s = exec i { s with pc := s.pc + 1#16 } :=
  step_of_encodedAs hrun hencoded (bytesAt_singleton hbyte)

/-! ## The obligations about machine control -/

/-- Settles O41: NOP and the twelve have the same empty effect, so their step is the fetch of their one byte. -/
theorem noOperationsChangeNothing : Obligations.NoOperationsChangeNothing := by
  unfold Obligations.NoOperationsChangeNothing
  have hnop : EncodedAs .nop [0x00#8] := encodedAs_of_form rfl rfl rfl
  refine ⟨hnop, exec_eq .nop, fun i u hform => exec_of_form hform, fun s hrun hbyte => ?_⟩
  obtain hzero | hundocumented := hbyte
  · rw [step_of_encodedAs_singleton hrun hnop hzero]
    exact exec_eq .nop _
  · obtain ⟨u, hu⟩ := mem_undocumentedBytes_iff.mp hundocumented
    obtain ⟨i, hform⟩ := form_onto (.undocumented u)
    rw [step_of_encodedAs_singleton hrun (encodedAs_of_form hform hu rfl) rfl]
    exact exec_of_form hform _

/-- Settles O42: each of the three has its form's effect, so the request after EI finds INTE set and the one after DI finds it
clear. -/
theorem haltAndInterruptEnable : Obligations.HaltAndInterruptEnable := by
  unfold Obligations.HaltAndInterruptEnable
  have hhlt : EncodedAs .hlt [0x76#8] := encodedAs_of_form rfl rfl rfl
  refine ⟨hhlt, encodedAs_of_form rfl rfl rfl, encodedAs_of_form rfl rfl rfl,
    fun s => ⟨exec_eq .hlt s, exec_eq .ei s, exec_eq .di s⟩, fun s n hrun => ⟨?_, ?_⟩, fun s hrun hbyte => ?_⟩
  · refine ⟨s.setInte true, exec_eq .ei s, ?_⟩
    rw [State.interruptRequest_accepted (s := s.setInte true) n hrun rfl]
    exact vector_eq_ofNat n
  · exact ⟨s.setInte false, exec_eq .di s, State.interruptRequest_refused n (.inr rfl)⟩
  · rw [step_of_encodedAs_singleton hrun hhlt hbyte]
    exact exec_eq .hlt _

end Sys2Proof.Claim

/-! ## A boundary of host events keeps the invariant -/

namespace Sys2Proof.Machine

/-- What is handed on completes only through a next state of the first result. -/
theorem andThen_eq_next {r : Result} {f : State → Result} {t : State} (h : andThen r f = .next t) :
    ∃ s, r = .next s ∧ f s = .next t := by
  cases r with
  | next s => exact ⟨s, rfl, h⟩
  | fault e => cases h
  | refused e => cases h

/-- A load that completes writes the image into memory and does nothing else (R308). -/
theorem State.loadImage_eq_next {s t : State} {base : Nat} {bytes : List Byte} (h : s.loadImage base bytes = .next t) :
    t = { s with mem := s.mem.writeBytes (BitVec.ofNat 16 base) bytes } := by
  unfold State.loadImage at h
  split at h
  · exact (Host.Outcome.next.inj h).symm
  · cases h

/-- A load that completes keeps the invariant. -/
theorem State.Inv.loadImage {s t : State} {base : Nat} {bytes : List Byte} (hinv : s.Inv)
    (h : s.loadImage base bytes = .next t) : t.Inv := by
  obtain ⟨hmem, hrun⟩ := hinv
  rw [State.loadImage_eq_next h]
  exact ⟨Memory.wf_writeBytes hmem _ bytes, hrun⟩

/-- Loads that complete one after another keep the invariant. -/
theorem State.Inv.loadImages {s t : State} {images : List Image} (hinv : s.Inv) (h : s.loadImages images = .next t) :
    t.Inv := by
  induction images generalizing s with
  | nil =>
    obtain rfl : s = t := Host.Outcome.next.inj h
    exact hinv
  | cons i more ih =>
    obtain ⟨u, hload, hmore⟩ := andThen_eq_next h
    exact ih (hinv.loadImage hload) hmore

/-- Reset gives a state that meets the invariant, whatever the state was (R37). -/
theorem State.inv_applyReset (s : State) : s.applyReset.Inv := ⟨rfl, rfl⟩

/-- The Reset of a boundary, with its images, keeps the invariant. -/
theorem State.Inv.atReset {s t : State} {reset : Option (List Image)} (hinv : s.Inv)
    (h : s.atReset reset = .next t) : t.Inv := by
  cases reset with
  | none =>
    obtain rfl : s = t := Host.Outcome.next.inj h
    exact hinv
  | some images => exact s.inv_applyReset.loadImages h

/-- A stop request keeps the invariant: Stopped is not the decode error. -/
theorem State.Inv.requestStop {s : State} (hinv : s.Inv) : s.requestStop.Inv := by
  obtain ⟨hmem, hrun⟩ := hinv
  unfold State.requestStop
  split
  · exact ⟨hmem, rfl⟩
  · exact ⟨hmem, hrun⟩

/-- A latch write keeps the invariant. -/
theorem State.Inv.setPort {s : State} (hinv : s.Inv) (k : Latch) (v : Byte) : (s.setPort k v).Inv := by
  obtain ⟨hmem, hrun⟩ := hinv
  exact ⟨by rwa [State.setPort_mem], by rwa [State.setPort_run]⟩

/-- An interrupt request keeps the invariant: it does to memory at most a push, and leaves the run state. -/
theorem State.Inv.interruptRequest {s : State} (hinv : s.Inv) (n : BitVec 3) : (s.interruptRequest n).Inv := by
  unfold State.interruptRequest
  split
  · obtain ⟨hmem, hrun⟩ := hinv
    exact ⟨State.wf_push16 hmem s.pc, hrun⟩
  · exact hinv

/-- The events after Reset keep the invariant, in whatever numbers they come. -/
theorem State.Inv.atEvents {s : State} (hinv : s.Inv) (x : Boundary) : (s.atEvents x).Inv := by
  unfold State.atEvents
  refine List.foldlRecOn x.requests _ ?_ fun t ht n _ => ht.interruptRequest n
  refine List.foldlRecOn x.latches _ ?_ fun t ht w _ => ht.setPort w.1 w.2
  split
  · exact hinv.requestStop
  · exact hinv

/-- A boundary that completes keeps the invariant. -/
theorem State.Inv.atBoundary {s t : State} {x : Boundary} (hinv : s.Inv) (h : s.atBoundary x = .next t) : t.Inv := by
  obtain ⟨u, hreset, hevents⟩ := andThen_eq_next h
  obtain rfl : u.atEvents x = t := Host.Outcome.next.inj hevents
  exact (hinv.atReset hreset).atEvents x

/-- A boundary and the step after it keep the invariant (R270, R278). -/
theorem State.Inv.systemStep {s t : State} {x : Boundary} (hinv : s.Inv) (h : systemStep x s = .next t) : t.Inv := by
  obtain ⟨u, hboundary, hstep⟩ := andThen_eq_next h
  exact stepKeepsTheInvariant u t (hinv.atBoundary hboundary) hstep

end Sys2Proof.Machine

namespace Sys2Proof

open Sys2Proof.Machine

/-- Every state the system reaches meets the invariant. -/
theorem Reachable.inv {s : State} (h : Reachable s) : s.Inv := by
  induction h with
  | constructed => exact constructedCoreIsSound
  | next x _ hstep ih => exact ih.systemStep hstep

/-- Settles O50: each event of a boundary and the step after it keep the invariant, which the constructed core meets. -/
theorem decodeErrorIsUnreachable : Obligations.DecodeErrorIsUnreachable := by
  unfold Obligations.DecodeErrorIsUnreachable
  exact ⟨fun _ _ _ hinv hstep => hinv.systemStep hstep, fun _ hreachable => hreachable.inv⟩

end Sys2Proof

/-! ## An accepted interrupt request and its return (R277, R280) -/

namespace Sys2Proof.Claim

open Sys2Proof.Machine

/-- An accepted request is the call of the vector with INTE cleared (R277). -/
theorem pushes_interruptRequest {s : State} (n : BitVec 3) (hrun : s.run = .running) (hinte : s.inte = true) :
    Pushes s (s.interruptRequest n) { s with pc := BitVec.ofNat 16 (8 * n.toNat), inte := false } (pcHigh s) (pcLow s) := by
  obtain ⟨-, hread⟩ := pushes_call s (BitVec.ofNat 16 (8 * n.toNat))
  rw [State.interruptRequest_accepted n hrun hinte, enterVector_eq_call]
  exact ⟨rfl, hread⟩

/-- After an accepted request INTE is 0 (R277). -/
theorem interruptRequest_inte {s : State} (n : BitVec 3) (hrun : s.run = .running) (hinte : s.inte = true) :
    (s.interruptRequest n).inte = false := by
  rw [State.interruptRequest_accepted n hrun hinte]

/-- The entry of RST is the accepted request but for INTE, which was 1 and stays so (R233, R277). -/
theorem enterVector_eq_interruptRequest {s : State} (n : BitVec 3) (hrun : s.run = .running) (hinte : s.inte = true) :
    s.enterVector n = { s.interruptRequest n with inte := true } := by
  rw [State.interruptRequest_accepted n hrun hinte, ← hinte]
  rfl

/-- A return straight after an accepted request takes back all but INTE and the two bytes in memory (R280). -/
theorem ret_interruptRequest {s : State} (n : BitVec 3) (hrun : s.run = .running) (hinte : s.inte = true) :
    (s.interruptRequest n).ret = { s with inte := false, mem := (s.interruptRequest n).mem } := by
  have hcall := ret_call s (BitVec.ofNat 16 (8 * n.toNat))
  rw [State.interruptRequest_accepted n hrun hinte, enterVector_eq_call]
  exact congrArg (State.setInte · false) hcall

/-! ## The events of a boundary without a Reset (R278) -/

/-- Latch writes change the latches alone (R251). -/
theorem foldl_setPort (s : State) (latches : List (Latch × Byte)) :
    ∃ p q, latches.foldl (fun t w => t.setPort w.1 w.2) s = { s with port1 := p, port2 := q } := by
  induction latches generalizing s with
  | nil => exact ⟨s.port1, s.port2, rfl⟩
  | cons w more ih =>
    obtain ⟨k, v⟩ := w
    obtain ⟨p, q, hmore⟩ := ih (s.setPort k v)
    refine ⟨p, q, hmore.trans ?_⟩
    cases k <;> rfl

/-- No request of a list has an effect outside the running state (R277). -/
theorem foldl_interruptRequest_not_running {s : State} (hrun : s.run ≠ .running) (requests : List (BitVec 3)) :
    requests.foldl (fun t n => t.interruptRequest n) s = s :=
  List.foldl_fixed' (fun n => s.interruptRequest_refused n (.inl hrun)) requests

/-- A boundary without a Reset has the effect of its events after Reset. -/
theorem atBoundary_of_no_reset (s : State) {x : Boundary} (hreset : x.reset = none) :
    s.atBoundary x = .next (s.atEvents x) := by
  rw [State.atBoundary, hreset]
  rfl

/-- A stop request at a boundary refuses the boundary's interrupt requests: only the latches change beside RUN. -/
theorem atEvents_of_stop {s : State} {x : Boundary} (hstop : x.stop = true) (hrun : s.run = .running) :
    ∃ p q, s.atEvents x = { s with run := .stopped, port1 := p, port2 := q } := by
  have hstopped : s.requestStop = { s with run := .stopped } := (stopAndTerminalStates s).1 hrun
  obtain ⟨p, q, hlatches⟩ := foldl_setPort { s with run := .stopped } x.latches
  have hterminal : ({ s with run := .stopped, port1 := p, port2 := q } : State).run ≠ .running := nofun
  refine ⟨p, q, ?_⟩
  rw [State.atEvents, if_pos hstop, hstopped, hlatches]
  exact foldl_interruptRequest_not_running hterminal x.requests

/-- A latch write and a request at one boundary are the request in the state with the latch written. -/
theorem atBoundary_latch_request (s : State) (k : Latch) (v : Byte) (n : BitVec 3) :
    s.atBoundary { reset := none, stop := false, latches := [(k, v)], requests := [n] } =
      .next ((s.setPort k v).interruptRequest n) :=
  rfl

/-! ## The obligations about interrupts -/

/-- Settles O43: a request is accepted with the effect of a call to 8·n, or refused. -/
theorem interruptRequestAcceptedOrLost : Obligations.InterruptRequestAcceptedOrLost := by
  unfold Obligations.InterruptRequestAcceptedOrLost
  exact fun s n => ⟨pushes_interruptRequest n, State.interruptRequest_refused n⟩

/-- Settles O44: RST and acceptance enter the vector alike, and the cleared INTE refuses the second request. -/
theorem acceptanceIsRestartWithInterruptsOff : Obligations.AcceptanceIsRestartWithInterruptsOff := by
  unfold Obligations.AcceptanceIsRestartWithInterruptsOff
  intro s n m i hform hrun hinte
  have hoff : (s.interruptRequest n).inte = false := interruptRequest_inte n hrun hinte
  refine ⟨?_, hoff, State.interruptRequest_refused m (.inr hoff)⟩
  rw [exec_of_form hform, ← enterVector_eq_interruptRequest n hrun hinte]
  rfl

/-- Settles O45: the return undoes the call that acceptance makes, and the EI before it passes through it. -/
theorem handlerReturnRestoresPc : Obligations.HandlerReturnRestoresPc := by
  unfold Obligations.HandlerReturnRestoresPc
  intro s n hrun hinte
  have hret := ret_interruptRequest n hrun hinte
  have heiret : ((s.interruptRequest n).setInte true).ret = { s with mem := (s.interruptRequest n).mem } := by
    calc ((s.interruptRequest n).setInte true).ret
        = (s.interruptRequest n).ret.setInte true := State.effect_setInte _ true (f := .ret) nofun nofun
      _ = { s with inte := true, mem := (s.interruptRequest n).mem } := congrArg (State.setInte · true) hret
      _ = { s with mem := (s.interruptRequest n).mem } := by rw [← hinte]
  obtain ⟨-, hread⟩ := pushes_interruptRequest n hrun hinte
  refine ⟨_, _, (exec_eq .ret _).trans (congrArg Host.Outcome.next hret), rfl,
    (execAll_pair_of_form rfl rfl _).trans (congrArg Host.Outcome.next heiret), rfl, rfl, fun x hhigh hlow => ?_⟩
  exact (hread x).trans ((if_neg hhigh).trans (if_neg hlow))

/-- Settles O60: Stopped, with whatever latches, refuses every request; and acceptance keeps the latch just written. -/
theorem boundaryOrder : Obligations.BoundaryOrder := by
  unfold Obligations.BoundaryOrder
  constructor
  · intro s x hreset hstop hrun
    obtain ⟨p, q, hevents⟩ := atEvents_of_stop hstop hrun
    exact ⟨_, (atBoundary_of_no_reset s hreset).trans (congrArg Host.Outcome.next hevents), rfl⟩
  · intro s n v hrun hinte
    refine ⟨_, atBoundary_latch_request s .one v n, ?_⟩
    rw [State.interruptRequest_accepted (s := s.setPort .one v) n hrun hinte]
    exact ⟨rfl, vector_eq_ofNat n, rfl⟩

end Sys2Proof.Claim

/-! ## An image in memory, and the view of the framebuffer (R308, R310) -/

namespace Sys2Proof.Machine

/-- An image that fits leaves its byte at each of its addresses and every other byte as it was: it does not wrap. -/
theorem Memory.read_writeBytes_of_fits (m : Memory) {base : Nat} {bytes : List Byte} (hfits : base + bytes.length ≤ 65536)
    (y : Word) : (m.writeBytes (BitVec.ofNat 16 base) bytes).read y =
      if base ≤ y.toNat then bytes[y.toNat - base]?.getD (m.read y) else m.read y := by
  have hy := y.isLt
  have hdistance : (y - BitVec.ofNat 16 base).toNat = (65536 - base % 65536 + y.toNat) % 65536 := by
    rw [BitVec.toNat_sub, BitVec.toNat_ofNat]
  rw [Memory.read_writeBytes m _ y bytes (by omega)]
  split
  · next hle =>
    have : (y - BitVec.ofNat 16 base).toNat = y.toNat - base := by omega
    rw [this]
  · next hlt =>
    have hbeyond : bytes.length ≤ (y - BitVec.ofNat 16 base).toNat := by omega
    rw [List.getElem?_eq_none hbeyond, Option.getD_none]

/-! ## Runs by instructions and by clock cycles (R309, R314) -/

theorem andThen_assoc (r : Result) (f g : State → Result) :
    andThen (andThen r f) g = andThen r fun s => andThen (f s) g := by
  cases r <;> rfl

theorem andThen_next (r : Result) : andThen r .next = r := by
  cases r <;> rfl

theorem runInstructions_succ {s : State} (hrun : s.run = .running) (n : Nat) :
    runInstructions (n + 1) s = andThen (step s) (runInstructions n) :=
  if_pos hrun

theorem runInstructions_not_running {s : State} (hrun : s.run ≠ .running) (n : Nat) : runInstructions n s = .next s := by
  cases n with
  | zero => rfl
  | succ n => exact if_neg hrun

/-- Budgets add up: the second run goes on where the first one ended. -/
theorem runInstructions_add (m n : Nat) (s : State) :
    runInstructions (m + n) s = andThen (runInstructions m s) (runInstructions n) := by
  induction m generalizing s with
  | zero => rw [Nat.zero_add]; rfl
  | succ m ih =>
    by_cases hrun : s.run = .running
    · rw [Nat.succ_add, runInstructions_succ hrun, runInstructions_succ hrun, andThen_assoc, funext ih]
    · rw [runInstructions_not_running hrun, runInstructions_not_running hrun]
      exact (runInstructions_not_running hrun n).symm

/-- Every row of R314's table has a count above zero. -/
theorem Form.clockCycles_pos (taken : Bool) (f : Form) : 0 < Form.clockCycles taken f := by
  cases f
  case rcc | ccc => cases taken <;> exact Nat.zero_lt_succ _
  all_goals exact Nat.zero_lt_succ _

/-- Every step has a count above zero: the fetch always finds an instruction (R95). -/
theorem State.nextCycles_pos (s : State) : 0 < s.nextCycles := by
  obtain ⟨i, hfetch, -⟩ := fetchInstr_spec s
  rw [State.nextCycles, hfetch]
  exact Form.clockCycles_pos _ _

theorem runCyclesFrom_succ {s : State} {budget : Nat} (h : s.run = .running ∧ 0 < budget) (fuel : Nat) :
    runCyclesFrom (fuel + 1) budget s = andThen (step s) (runCyclesFrom fuel (budget - s.nextCycles)) :=
  if_pos h

/-- A run ends where the core is not running or the budget is used up. -/
theorem runCyclesFrom_done {s : State} {budget : Nat} (h : ¬ (s.run = .running ∧ 0 < budget)) (fuel : Nat) :
    runCyclesFrom fuel budget s = .next s := by
  cases fuel with
  | zero => rfl
  | succ fuel => exact if_neg h

/-- Bounds on the number of steps that the budget does not exceed give the same run: each step takes at least one cycle off
the budget and one step off the bound. -/
theorem runCyclesFrom_eq_of_le {fuel fuel' budget : Nat} (hfuel : budget ≤ fuel) (hfuel' : budget ≤ fuel') (s : State) :
    runCyclesFrom fuel budget s = runCyclesFrom fuel' budget s := by
  induction fuel generalizing fuel' budget s with
  | zero =>
    have hdone : ¬ (s.run = .running ∧ 0 < budget) := fun h => by omega
    rw [runCyclesFrom_done hdone, runCyclesFrom_done hdone]
  | succ fuel ih =>
    by_cases hgo : s.run = .running ∧ 0 < budget
    · obtain ⟨k, rfl⟩ : ∃ k, fuel' = k + 1 := Nat.exists_eq_add_one.mpr (by omega)
      have hcost := s.nextCycles_pos
      have hrest : runCyclesFrom fuel (budget - s.nextCycles) = runCyclesFrom k (budget - s.nextCycles) :=
        funext fun t => ih (by omega) (by omega) t
      rw [runCyclesFrom_succ hgo, runCyclesFrom_succ hgo, hrest]
    · rw [runCyclesFrom_done hgo, runCyclesFrom_done hgo]

/-! ## The obligations about the host interface -/

/-- Settles O57: a load is one write of its bytes when they fit, and the fault when they do not. -/
theorem loadImagePlacesTheBytes : Obligations.LoadImagePlacesTheBytes := by
  unfold Obligations.LoadImagePlacesTheBytes
  intro s base bytes
  constructor
  · intro hfits
    exact ⟨_, if_pos hfits, rfl, Memory.read_writeBytes_of_fits s.mem hfits⟩
  · intro hlong
    exact if_neg (Nat.not_le.mpr hlong)

/-- Settles O58: the view lists the bytes at the offsets 0 to 0x1BFF from the framebuffer's base. -/
theorem framebufferViewIsTheRange : Obligations.FramebufferViewIsTheRange := by
  unfold Obligations.FramebufferViewIsTheRange
  intro s
  constructor
  · rw [State.framebufferView, List.length_map, List.length_range]
    rfl
  · intro k hk
    have hrange : (List.range Config.framebufferBytes)[k]? = some k := List.getElem?_range hk
    rw [State.framebufferView, List.getElem?_map, hrange, BitVec.ofNat_add]
    rfl

/-- Settles O59: both kinds of run take one step at a time, and a step uses up at least one cycle of a budget in cycles. -/
theorem runBudgetIsStepsInARow : Obligations.RunBudgetIsStepsInARow := by
  unfold Obligations.RunBudgetIsStepsInARow
  refine ⟨runInstructions_add, fun s hrun => ?_, fun n s hrun => runInstructions_not_running hrun n, ?_⟩
  · exact (runInstructions_succ hrun 0).trans (andThen_next (step s))
  · exact fun fuel budget s hfuel => runCyclesFrom_eq_of_le hfuel le_rfl s

end Sys2Proof.Machine
